-- ==== Sys2Proof/Word.lean ====
section
/-! DEFINITION. The two bit-vector sizes of the block (00_scope.md R8): the 8-bit byte of the buffers
and streams, and the 32-bit word of the registers and of a command. -/

namespace Sys2Proof

/-- A byte of a buffer or a stream (R8). -/
abbrev Byte := BitVec 8

/-- A 32-bit register value or command word (R22, R90). -/
abbrev Word := BitVec 32

end Sys2Proof
end

