-- ==== Sys2Proof/Syntax.lean ====
section
/-! DEFINITION. The 21 commands of the block, one constructor per row of spec/opcode_table.json
(30_encoding.md R92). -/

namespace Sys2Proof

/-- A command. Only FILTER_ROW and FILTER_ALL have an operand, the filter type in ARG (R91, R93);
RESET carries the 24 bits its encoding ignores (R96). -/
inductive Instr where
  | nop
  | reset (ignored : BitVec 24)
  | configure
  | crcInit
  | crcType
  | crcCsb
  | crcCheck
  | chunkHdr
  | chunkRead
  | chunkSkip
  | chunkEmit
  | idatRun
  | idatEmit
  | unfilterRow
  | unfilterAll
  | filterRow (ft : Byte)
  | filterAll (ft : Byte)
  | unpackRow
  | unpackAll
  | packRow
  | packAll
deriving DecidableEq, Repr

end Sys2Proof
end

