-- ==== Sys2Proof/WellFormed.lean ====
section
/-! DEFINITION. Which terms of `Instr` are commands of the block: the operand check of 30_encoding.md R93. -/

namespace Sys2Proof

/-- R93: for FILTER_ROW and FILTER_ALL the filter type is 0 to 4; no other command has a check. -/
def Instr.wellFormed : Instr → Bool
  | .filterRow ft => ft.toNat ≤ 4
  | .filterAll ft => ft.toNat ≤ 4
  | .nop => true
  | .reset _ => true
  | .configure => true
  | .crcInit => true
  | .crcType => true
  | .crcCsb => true
  | .crcCheck => true
  | .chunkHdr => true
  | .chunkRead => true
  | .chunkSkip => true
  | .chunkEmit => true
  | .idatRun => true
  | .idatEmit => true
  | .unfilterRow => true
  | .unfilterAll => true
  | .unpackRow => true
  | .unpackAll => true
  | .packRow => true
  | .packAll => true

/-- The command is one the encoding of R92 and R93 admits. -/
abbrev Instr.WellFormed (i : Instr) : Prop := i.wellFormed = true

end Sys2Proof
end

