-- ==== Sys2Proof/Decode.lean ====
section
/-! DEFINITION. The command decoder of 30_encoding.md R104, total on every 32-bit word, and the encoder
written from the opcode map R92. -/

namespace Sys2Proof

/-- Why a word is no command (R95). Each of them makes the block raise IllegalCommand. -/
inductive DecodeError where
  | reservedOpcode   -- OP is one of the 235 reserved values (R95)
  | illegalArg       -- ARG ≠ 0, or a filter type above 4 (R93)
  | illegalRsv       -- RSV ≠ 0 (R94)
deriving DecidableEq, Repr

/-- OP, bits [31:24] of a command word (R91). -/
def opField (w : Word) : Byte := w.extractLsb' 24 8

/-- ARG, bits [23:16] of a command word (R91). -/
def argField (w : Word) : Byte := w.extractLsb' 16 8

/-- RSV, bits [15:0] of a command word (R91). -/
def rsvField (w : Word) : BitVec 16 := w.extractLsb' 0 16

/-- The opcode map R92, RESET aside: the command an opcode names, given its ARG. -/
def commandOf (op arg : Byte) : Option Instr :=
  match op.toNat with
  | 0x00 => some .nop
  | 0x02 => some .configure
  | 0x10 => some .crcInit
  | 0x11 => some .crcType
  | 0x12 => some .crcCsb
  | 0x13 => some .crcCheck
  | 0x20 => some .chunkHdr
  | 0x21 => some .chunkRead
  | 0x22 => some .chunkSkip
  | 0x23 => some .chunkEmit
  | 0x24 => some .idatRun
  | 0x25 => some .idatEmit
  | 0x30 => some .unfilterRow
  | 0x31 => some .unfilterAll
  | 0x32 => some (.filterRow arg)
  | 0x33 => some (.filterAll arg)
  | 0x40 => some .unpackRow
  | 0x41 => some .unpackAll
  | 0x42 => some .packRow
  | 0x43 => some .packAll
  | _ => none

/-- R93: ARG is a filter type 0 to 4 for the two FILTER opcodes and 0 for the others. -/
def argLegal (op arg : Byte) : Bool :=
  if op = 0x32#8 ∨ op = 0x33#8 then arg.toNat ≤ 4 else arg = 0#8

/-- R104, the decode of a command word: RESET from OP alone (R96), then the checks in the order OP, ARG,
RSV (60_exceptions.md R274). -/
def decode (w : Word) : Except DecodeError Instr :=
  if opField w = 0x01#8 then .ok (.reset (w.extractLsb' 0 24))
  else
    match commandOf (opField w) (argField w) with
    | none => .error .reservedOpcode
    | some i =>
      if argLegal (opField w) (argField w) = false then .error .illegalArg
      else if rsvField w ≠ 0#16 then .error .illegalRsv
      else .ok i

/-- The opcode of a command (R92). -/
def Instr.opcode : Instr → Byte
  | .nop => 0x00#8
  | .reset _ => 0x01#8
  | .configure => 0x02#8
  | .crcInit => 0x10#8
  | .crcType => 0x11#8
  | .crcCsb => 0x12#8
  | .crcCheck => 0x13#8
  | .chunkHdr => 0x20#8
  | .chunkRead => 0x21#8
  | .chunkSkip => 0x22#8
  | .chunkEmit => 0x23#8
  | .idatRun => 0x24#8
  | .idatEmit => 0x25#8
  | .unfilterRow => 0x30#8
  | .unfilterAll => 0x31#8
  | .filterRow _ => 0x32#8
  | .filterAll _ => 0x33#8
  | .unpackRow => 0x40#8
  | .unpackAll => 0x41#8
  | .packRow => 0x42#8
  | .packAll => 0x43#8

/-- The 24 bits below OP: the filter type in ARG for the FILTER commands, the ignored bits for RESET,
zero for every other command (R91, R96). -/
def Instr.operandBits : Instr → BitVec 24
  | .reset ignored => ignored
  | .filterRow ft => ft ++ 0#16
  | .filterAll ft => ft ++ 0#16
  | .nop => 0#24
  | .configure => 0#24
  | .crcInit => 0#24
  | .crcType => 0#24
  | .crcCsb => 0#24
  | .crcCheck => 0#24
  | .chunkHdr => 0#24
  | .chunkRead => 0#24
  | .chunkSkip => 0#24
  | .chunkEmit => 0#24
  | .idatRun => 0#24
  | .idatEmit => 0#24
  | .unfilterRow => 0#24
  | .unfilterAll => 0#24
  | .unpackRow => 0#24
  | .unpackAll => 0#24
  | .packRow => 0#24
  | .packAll => 0#24

/-- The command word of a command (R91, R92, R103). -/
def encode (i : Instr) : Word := i.opcode ++ i.operandBits

/-- The command in the low `nbits` bits of `w`, the bits above them zero. A command word is a register
value with no byte lanes (20_memory.md R66), so it is the number itself. -/
def decodeTableWord (nbits w : Nat) : Option Instr :=
  match decode (BitVec.ofNat 32 (w % 2 ^ nbits)) with
  | .ok i => some i
  | .error _ => none

end Sys2Proof
end

