-- ==== Sys2Proof/Config.lean ====
section
/-! DEFINITION. What an implementation fixes (00_scope.md R6) and the free values: the contents of the
buffers at power-on and the answers of the four oracles. Every `opaque` constant here has no body, so
no proof can see its value. -/

namespace Sys2Proof

/-- The three byte buffers (20_memory.md R60). -/
inductive Space where
  | slb   -- decompressed scanline buffer
  | pix   -- pixel buffer
  | csb   -- chunk scratch buffer
deriving DecidableEq, Repr

/-- The status an `Inflate` call reports, and so the values of FR_ZST (42_framer.md R160, 10_state.md R52). -/
inductive InflateStatus where
  | more
  | complete
  | error
deriving DecidableEq, Repr, Inhabited

/-- One answer of the inflater: the count of input bytes consumed, the output bytes, the status (R160). -/
structure InflateAnswer where
  consumed : Nat
  output   : List Byte
  status   : InflateStatus
deriving DecidableEq, Repr, Inhabited

/-- One answer of the deflater: the compressed bytes, and whether the status is `ok` (R162). -/
structure DeflateAnswer where
  output : List Byte
  ok     : Bool
deriving DecidableEq, Repr, Inhabited

/-- The implementation parameters of R6. They stand in `State` so that a statement about every state is
a statement about every choice of them. -/
structure Params where
  slbCap  : Nat
  pixCap  : Nat
  csbCap  : Nat
  zoutCap : Nat
deriving DecidableEq, Repr

/-- The constraints R6 puts on the parameters. -/
abbrev Params.Legal (p : Params) : Prop :=
  (1 ≤ p.slbCap ∧ p.slbCap ≤ 2 ^ 28) ∧ (1 ≤ p.pixCap ∧ p.pixCap ≤ 2 ^ 28) ∧
  (13 ≤ p.csbCap ∧ p.csbCap ≤ 2 ^ 28) ∧ (1 ≤ p.zoutCap ∧ p.zoutCap ≤ 2 ^ 32 - 1)

/-- The capacity of a buffer (R6, R60). -/
def Params.cap (p : Params) : Space → Nat
  | .slb => p.slbCap
  | .pix => p.pixCap
  | .csb => p.csbCap

/-- SLB_CAP − 1 of the implementation, any value R6 allows. Free (log entry 3). -/
opaque Config.slbCapPred : Fin 268435456
/-- PIX_CAP − 1 of the implementation, any value R6 allows. Free (log entry 3). -/
opaque Config.pixCapPred : Fin 268435456
/-- CSB_CAP − 13 of the implementation, any value R6 allows. Free (log entry 3). -/
opaque Config.csbCapOver : Fin 268435444
/-- ZOUT_CAP − 1 of the implementation, any value R6 allows. Free (log entry 3). -/
opaque Config.zoutCapPred : Fin 4294967295

/-- The parameters of the implementation at hand (R6), within their constraints by construction. -/
def Config.params : Params where
  slbCap  := Config.slbCapPred.val + 1
  pixCap  := Config.pixCapPred.val + 1
  csbCap  := Config.csbCapOver.val + 13
  zoutCap := Config.zoutCapPred.val + 1

/-- The byte power-on leaves at an offset of a buffer, free for each power-on (20_memory.md R69,
70_reset_and_hazards.md R301). The first argument counts the power-on resets. Log entry 2. -/
opaque Config.powerOnByte : Nat → Space → Nat → Byte

/-- The byte source's answer to its `k`-th read, of `n` bytes; `none`: it never answers (20_memory.md R70,
70_reset_and_hazards.md R313). Free. Log entry 4. -/
opaque Config.sourceDraw : (k n : Nat) → Option (List Byte)

/-- How many bytes the sink accepts of its `k`-th write; `none`: it never answers (20_memory.md R71,
70_reset_and_hazards.md R313). Free. Log entry 4. -/
opaque Config.sinkDraw : (k : Nat) → (s : List Byte) → Option Nat

/-- The inflater's answer to its `k`-th call, made on session number `session` with the given input and
room (42_framer.md R160). Free, cut to the contract's bounds where it is used. Log entry 5. -/
opaque Config.inflateDraw : (session k : Nat) → (input : List Byte) → (room : Nat) → InflateAnswer

/-- What IDAT_COUNT becomes when it holds 2^32 − 1 and one more chunk is counted: the spec states no value there. The
argument counts the inflater's calls. Free. Log entry 13. -/
opaque Config.idatCountBeyond : Nat → Word

/-- The deflater's answer to its `k`-th call (42_framer.md R162). Free, cut to the contract's bound where
it is used. Log entry 5. -/
opaque Config.deflateDraw : (k : Nat) → (input : List Byte) → (cap : Nat) → DeflateAnswer

end Sys2Proof
end

