-- ==== Sys2Proof/Machine/State.lean ====
section
/-! DEFINITION. The state of the block and of the world at its ports, as plain data (10_state.md,
20_memory.md sections 1 and 3, 42_framer.md section 1), and the state right after power-on reset. -/

namespace Sys2Proof.Machine

/-- The framer's state, STATUS.FR_STATE (10_state.md R23). The code 3 never appears. -/
inductive FrState where
  | idle
  | done
  | failed
deriving DecidableEq, Repr

/-- STATUS (10_state.md R23): ERR, CFG, FR_STATE, ERRCODE, ERROP. Its 32-bit view is `Status.word`. -/
structure Status where
  err     : Bool
  cfg     : Bool
  frState : FrState
  errCode : Byte
  errOp   : Byte
deriving DecidableEq, Repr

/-- The registers of 10_state.md R22 that hold state. CRC_RESULT is a view (R42) and CMD holds none (R50). -/
structure Regs where
  status       : Status
  width        : Word
  height       : Word
  bitDepth     : Byte
  colorType    : Byte
  compression  : Byte
  filterMethod : Byte
  interlace    : Byte
  channels     : BitVec 3
  stride       : BitVec 3
  pitch        : Word
  slbSize      : Word
  pixSize      : Word
  ufRow        : Word
  upRow        : Word
  pkRow        : Word
  feLeft       : Word
  crcAcc       : Word
  crcExpect    : Word
  chunkLen     : Word
  chunkType    : Word
  frOut        : Word
  inPos        : Word
  outPos       : Word
  idatCount    : Word
deriving DecidableEq, Repr

/-- The registers after either reset event (70_reset_and_hazards.md R300, the reset column of R22). -/
def Regs.reset : Regs where
  status       := ⟨false, false, .idle, 0#8, 0#8⟩
  width        := 0#32
  height       := 0#32
  bitDepth     := 0#8
  colorType    := 0#8
  compression  := 0#8
  filterMethod := 0#8
  interlace    := 0#8
  channels     := 0#3
  stride       := 0#3
  pitch        := 0#32
  slbSize      := 0#32
  pixSize      := 0#32
  ufRow        := 0#32
  upRow        := 0#32
  pkRow        := 0#32
  feLeft       := 0#32
  crcAcc       := 0xFFFFFFFF#32
  crcExpect    := 0#32
  chunkLen     := 0#32
  chunkType    := 0#32
  frOut        := 0#32
  inPos        := 0#32
  outPos       := 0#32
  idatCount    := 0#32

/-- The bytes of a buffer that something has written since power-on, by offset. Canonical form: offsets
strictly rising. An unlisted offset holds no written byte; it reads as the free byte power-on left there
(20_memory.md R69, log entry 2), which is no datum an entry could equal. -/
abbrev Memory := List Host.Cell

/-- The canonical form of a buffer's contents. -/
abbrev Memory.wf (m : Memory) : Prop := m.Pairwise (fun x y => x.1 < y.1)

/-- The width of a host access (20_memory.md R68 speaks of widths other than the defined ones). -/
inductive Width where
  | byte
  | half
  | word
  | double
deriving DecidableEq, Repr

/-- What reaches the block from outside, in the order in which it takes effect (20_memory.md R75). -/
inductive HostEvent where
  | read (addr : Word) (width : Width)                  -- a host read (R66, R67)
  | write (addr : Word) (width : Width) (data : Word)   -- a host write (R66, R67), a command among them
  | powerOn                                             -- the platform asserts power-on reset (R300)
deriving DecidableEq, Repr

/-- The byte source SOURCE (20_memory.md R70): a finite stream that answers the next min(n, remaining)
bytes, or an oracle with the answers to come (`none`: it never answers) and, past them, free draws
numbered by `drawn`. -/
inductive Source where
  | stream (rest : List Byte)
  | oracle (script : List (Option (List Byte))) (drawn : Nat)
deriving DecidableEq, Repr

/-- The byte sink SINK (20_memory.md R71): how many bytes it accepts of each write to come (`none`: it
never answers) and, past them, free draws numbered by `drawn`. -/
structure Sink where
  script : List (Option Nat)
  drawn  : Nat
deriving DecidableEq, Repr

/-- INFLATE (42_framer.md R160): its answers to come, past them free draws numbered by `drawn`, and how
many sessions have been opened. -/
structure Inflater where
  script : List InflateAnswer
  drawn  : Nat
  opened : Nat
deriving DecidableEq, Repr

/-- DEFLATE (42_framer.md R162): its answers to come, past them free draws numbered by `drawn`. -/
structure Deflater where
  script : List DeflateAnswer
  drawn  : Nat
deriving DecidableEq, Repr

/-- What a command can be blocked on for ever (70_reset_and_hazards.md R313). -/
inductive Hang where
  | source
  | sink
deriving DecidableEq, Repr

/-- The state. The block's own: `regs`, the buffers, `frZst`, `session`, `running`, `hung`. The
parameters: `params`. The model's own fields, the world at the ports: the rest. -/
structure State where
  regs        : Regs
  slb         : Memory
  pix         : Memory
  csb         : Memory
  frZst       : InflateStatus       -- FR_ZST (10_state.md R52)
  session     : Option Nat          -- the inflater session the run opened, by number (R52)
  running     : Bool                -- an IDAT run is between two chunks (42_framer.md R171)
  hung        : Option Hang         -- a command is blocked for ever (R313)
  params      : Params              -- 00_scope.md R6
  host        : List HostEvent      -- what the outside has issued and the block has not taken, oldest first
  reply       : Option Word         -- the value the latest host read returned
  source      : Source
  sink        : Sink
  out         : List Byte           -- OUT, the bytes the sink has accepted, oldest first (20_memory.md R60)
  inflater    : Inflater
  deflater    : Deflater
  powerCycles : Nat                 -- power-on resets so far, the counter of the free buffer bytes
deriving DecidableEq, Repr

/-- Why a step stops with a fault. -/
inductive Fault where
  /-- Raised by a step of a block whose command waits for a byte source that never answers
  (70_reset_and_hazards.md R313: "if it never answers, the command never completes and no later host
  access takes effect"). Safe: the hardware has no further step either. -/
  | sourceNeverAnswers
  /-- Raised by a step of a block whose command waits for a byte sink that never answers (R313). Safe, as
  for the source. -/
  | sinkNeverAnswers
deriving DecidableEq, Repr

/-- Why a step is refused. All but `notModelled` are the host accesses of 20_memory.md R68, which "have no
step in the model". -/
inductive Refusal where
  /-- Raised by an arm of `exec` whose instruction has no meaning yet; no arm is so. Safe. -/
  | notModelled (mnemonic : String)
  /-- Raised by a host access to an address outside the windows of R65. Safe. -/
  | unmappedAddress
  /-- Raised by a register access that is misaligned or not 32 bits wide (R68). Safe. -/
  | registerAccessForm
  /-- Raised by a buffer access wider than one byte (R68). Safe. -/
  | bufferAccessWidth
  /-- Raised by a buffer access at or above the buffer's capacity (R68). Safe. -/
  | beyondCapacity
deriving DecidableEq, Repr

/-- The state right after power-on reset (70_reset_and_hazards.md R300, R301, R303): the registers at their
reset values, no byte written, FR_ZST `more`, no session, idle. The parameters are the implementation's
(log entry 3); no host access has been issued (log entry 1); nothing is known of what the oracles will
answer (log entries 4 and 5). -/
def State.reset : State where
  regs        := Regs.reset
  slb         := []
  pix         := []
  csb         := []
  frZst       := .more
  session     := none
  running     := false
  hung        := none
  params      := Config.params
  host        := []
  reply       := none
  source      := .oracle [] 0
  sink        := ⟨[], 0⟩
  out         := []
  inflater    := ⟨[], 0, 0⟩
  deflater    := ⟨[], 0⟩
  powerCycles := 0

end Sys2Proof.Machine
end

