-- ==== Sys2Proof/Machine/Flags.lean ====
section
/-! DEFINITION. STATUS, the block's only flag register (10_state.md R23, R54): the error kinds and codes
(60_exceptions.md R270, R271) and the 32-bit view. -/

namespace Sys2Proof.Machine

/-- The error kinds of R270. HeaderError and InvalidArgumentError are reserved for the host: no command
raises them. -/
inductive ErrKind where
  | ioError
  | headerError
  | corruptedError
  | crcError
  | compressionError
  | unknownFilterError
  | notSupportedError
  | memoryError
  | invalidArgumentError
  | sequenceError
  | illegalCommand
  | sampleRangeError
deriving DecidableEq, Repr

/-- The code of an error kind in STATUS.ERRCODE (R271). -/
def errorCode : ErrKind → Byte
  | .ioError => 0x01#8
  | .headerError => 0x02#8
  | .corruptedError => 0x03#8
  | .crcError => 0x04#8
  | .compressionError => 0x05#8
  | .unknownFilterError => 0x06#8
  | .notSupportedError => 0x07#8
  | .memoryError => 0x08#8
  | .invalidArgumentError => 0x09#8
  | .sequenceError => 0x10#8
  | .illegalCommand => 0x11#8
  | .sampleRangeError => 0x12#8

/-- The stable description string of an error kind (R271). -/
def errorDescription : ErrKind → String
  | .ioError => "short read or write on the byte stream"
  | .headerError => "bad PNG signature"
  | .corruptedError => "corrupted image data"
  | .crcError => "chunk CRC mismatch"
  | .compressionError => "compression stream error"
  | .unknownFilterError => "unknown scanline filter type"
  | .notSupportedError => "feature not supported"
  | .memoryError => "buffer capacity exceeded"
  | .invalidArgumentError => "invalid argument"
  | .sequenceError => "command issued out of sequence"
  | .illegalCommand => "illegal command word"
  | .sampleRangeError => "sample value exceeds bit depth"

/-- The error kinds in the order of R271's table. -/
def errorKinds : List ErrKind :=
  [.ioError, .headerError, .corruptedError, .crcError, .compressionError, .unknownFilterError, .notSupportedError,
   .memoryError, .invalidArgumentError, .sequenceError, .illegalCommand, .sampleRangeError]

/-- The error kind of a code of STATUS.ERRCODE, if it is one's (R271). -/
def errorKindOf (code : Byte) : Option ErrKind := errorKinds.find? (fun e => errorCode e == code)

/-- The stable description string of a value of STATUS.ERRCODE, "no error" for the code 0x00 of no kind (R271). No
other code ever appears there. -/
def codeDescription (code : Byte) : Option String :=
  if code = 0x00#8 then some "no error" else (errorKindOf code).map errorDescription

/-- The 2-bit code of FR_STATE (R23). -/
def frStateCode : FrState → BitVec 2
  | .idle => 0#2
  | .done => 1#2
  | .failed => 2#2

/-- STATUS as the host reads it (R23): [0] ERR, [1] CFG, [3:2] FR_STATE, [15:8] ERRCODE, [23:16] ERROP, the
reserved bits [7:4] and [31:24] zero. -/
def statusWord (st : Status) : Word :=
  0#8 ++ st.errOp ++ st.errCode ++ 0#4 ++ frStateCode st.frState ++ BitVec.ofBool st.cfg ++ BitVec.ofBool st.err

/-- Error entry's effect on STATUS (60_exceptions.md R275): ERR, ERRCODE and ERROP. -/
def statusError (op : Byte) (e : ErrKind) (st : Status) : Status :=
  { st with err := true, errCode := errorCode e, errOp := op }

end Sys2Proof.Machine
end

