-- ==== Sys2Proof/Machine/Operands.lean ====
section
/-! DEFINITION. Operand forms: byte order (00_scope.md R9, 20_memory.md R72), the geometry helpers
(00_scope.md R12), the filter types (30_encoding.md R97), the colour types (R98, R123), the register map
(10_state.md R22) and the host address map (20_memory.md R65). -/

namespace Sys2Proof.Machine

/-! ## Byte order -/

/-- BE32 (R9): the four bytes of a word, most significant first. -/
def be32 (v : Word) : List Byte :=
  [v.extractLsb' 24 8, v.extractLsb' 16 8, v.extractLsb' 8 8, v.extractLsb' 0 8]

/-- unBE32 (R9): b0·2^24 + b1·2^16 + b2·2^8 + b3 of a sequence of four bytes. -/
def unBe32 (s : List Byte) : Word :=
  s.foldl (fun acc b => acc * 256#32 + b.setWidth 32) 0#32

/-- The type tag IDAT as CHUNK_TYPE holds it, 0x49444154 (30_encoding.md R100). -/
def idatTag : Word := 0x49444154#32

/-! ## Geometry helpers -/

/-- filtAt(i) = i·(P + 1), the SLB offset of row i's filter-type byte (R12). -/
def filtAt (r : Regs) (i : Nat) : Nat := i * (r.pitch.toNat + 1)

/-- dataAt(i, x) = i·(P + 1) + 1 + x, the SLB offset of byte x of row i (R12). -/
def dataAt (r : Regs) (i x : Nat) : Nat := i * (r.pitch.toNat + 1) + 1 + x

/-- samplesPerRow = W·N (R12). -/
def samplesPerRow (r : Regs) : Nat := r.width.toNat * r.channels.toNat

/-- pixAt(r, k) = r·(W·N) + k, the PIX offset of sample k of row r (R12). -/
def pixAt (r : Regs) (row k : Nat) : Nat := row * samplesPerRow r + k

/-! ## Data fields -/

/-- The five scanline filters (30_encoding.md R97). -/
inductive FilterType where
  | none
  | sub
  | up
  | average
  | paeth
deriving DecidableEq, Repr

/-- The filter a filter-type byte names: 0 to 4, nothing above (R97). -/
def filterTypeOf (b : Byte) : Option FilterType :=
  match b.toNat with
  | 0 => some .none
  | 1 => some .sub
  | 2 => some .up
  | 3 => some .average
  | 4 => some .paeth
  | _ => Option.none

/-- The channel count of a colour type code, nothing for an unknown code (40_control.md R123, 30_encoding.md R98). -/
def channelsOf (colorType : Byte) : Option Nat :=
  match colorType.toNat with
  | 0 => some 1
  | 2 => some 3
  | 3 => some 1
  | 4 => some 2
  | 6 => some 4
  | _ => Option.none

/-- ceil(x / y) = (x + y − 1) div y for y > 0 (R8). -/
def ceilDiv (x y : Nat) : Nat := (x + y - 1) / y

/-! ## The register map -/

/-- The 27 defined registers (10_state.md R22). -/
inductive Reg where
  | status | width | height | bitDepth | colorType | compression | filterMethod | interlace
  | channels | stride | pitch | slbSize | pixSize | ufRow | upRow | pkRow | feLeft
  | crcAcc | crcResult | crcExpect | chunkLen | chunkType | frOut | inPos | outPos | idatCount | cmd
deriving DecidableEq, Repr

/-- The register at a byte offset of the register window; nothing at the reserved offsets 0x6C to 0xFC
(R22, R51). -/
def regAt (off : Nat) : Option Reg :=
  match off with
  | 0x00 => some .status
  | 0x04 => some .width
  | 0x08 => some .height
  | 0x0C => some .bitDepth
  | 0x10 => some .colorType
  | 0x14 => some .compression
  | 0x18 => some .filterMethod
  | 0x1C => some .interlace
  | 0x20 => some .channels
  | 0x24 => some .stride
  | 0x28 => some .pitch
  | 0x2C => some .slbSize
  | 0x30 => some .pixSize
  | 0x34 => some .ufRow
  | 0x38 => some .upRow
  | 0x3C => some .pkRow
  | 0x40 => some .feLeft
  | 0x44 => some .crcAcc
  | 0x48 => some .crcResult
  | 0x4C => some .crcExpect
  | 0x50 => some .chunkLen
  | 0x54 => some .chunkType
  | 0x58 => some .frOut
  | 0x5C => some .inPos
  | 0x60 => some .outPos
  | 0x64 => some .idatCount
  | 0x68 => some .cmd
  | _ => Option.none

/-- CRC_RESULT, the view CRC_ACC xor 0xFFFFFFFF (10_state.md R42). -/
def crcResult (r : Regs) : Word := r.crcAcc ^^^ 0xFFFFFFFF#32

/-- HostRegRead of a defined register (20_memory.md R66): the fields not used read 0 (R22), CMD reads 0 (R50). -/
def regRead (r : Regs) : Reg → Word
  | .status => statusWord r.status
  | .width => r.width
  | .height => r.height
  | .bitDepth => r.bitDepth.setWidth 32
  | .colorType => r.colorType.setWidth 32
  | .compression => r.compression.setWidth 32
  | .filterMethod => r.filterMethod.setWidth 32
  | .interlace => r.interlace.setWidth 32
  | .channels => r.channels.setWidth 32
  | .stride => r.stride.setWidth 32
  | .pitch => r.pitch
  | .slbSize => r.slbSize
  | .pixSize => r.pixSize
  | .ufRow => r.ufRow
  | .upRow => r.upRow
  | .pkRow => r.pkRow
  | .feLeft => r.feLeft
  | .crcAcc => r.crcAcc
  | .crcResult => crcResult r
  | .crcExpect => r.crcExpect
  | .chunkLen => r.chunkLen
  | .chunkType => r.chunkType
  | .frOut => r.frOut
  | .inPos => r.inPos
  | .outPos => r.outPos
  | .idatCount => r.idatCount
  | .cmd => 0#32

/-- What a geometry write does after it has stored its value (10_state.md R31): CFG and the derived
geometry become 0, nothing else changes. -/
def invalidateGeometry (r : Regs) : Regs :=
  { r with
    status := { r.status with cfg := false }
    channels := 0#3
    stride := 0#3
    pitch := 0#32
    slbSize := 0#32
    pixSize := 0#32 }

/-- HostRegWrite of a defined register other than CMD (20_memory.md R66): an RW register stores the value
masked to its used bits, a geometry register also invalidates the geometry (R31), an RO register ignores
it (R51). CMD is not handled here: it issues a command. -/
def regWrite (r : Regs) (reg : Reg) (v : Word) : Regs :=
  match reg with
  | .width => invalidateGeometry { r with width := v }
  | .height => invalidateGeometry { r with height := v }
  | .bitDepth => invalidateGeometry { r with bitDepth := v.setWidth 8 }
  | .colorType => invalidateGeometry { r with colorType := v.setWidth 8 }
  | .compression => invalidateGeometry { r with compression := v.setWidth 8 }
  | .filterMethod => invalidateGeometry { r with filterMethod := v.setWidth 8 }
  | .interlace => invalidateGeometry { r with interlace := v.setWidth 8 }
  | .crcExpect => { r with crcExpect := v }
  | .chunkLen => { r with chunkLen := v }
  | .chunkType => { r with chunkType := v }
  | .status => r
  | .channels => r
  | .stride => r
  | .pitch => r
  | .slbSize => r
  | .pixSize => r
  | .ufRow => r
  | .upRow => r
  | .pkRow => r
  | .feLeft => r
  | .crcAcc => r
  | .crcResult => r
  | .frOut => r
  | .inPos => r
  | .outPos => r
  | .idatCount => r
  | .cmd => r

/-! ## The host address map -/

/-- What a host address names (20_memory.md R65). -/
inductive Target where
  | register (off : Nat)
  | buffer (sp : Space) (off : Nat)
deriving DecidableEq, Repr

/-- The buffer whose window holds a host address from 0x1000_0000 up (R65): one window of 2^28 addresses for
each, since no capacity exceeds 2^28 (R6). -/
def windowOf (addr : Nat) : Option Space :=
  match addr / 0x10000000 with
  | 1 => some .slb
  | 2 => some .pix
  | 3 => some .csb
  | _ => Option.none

/-- The target of a host access, or the refusal of R68: registers are 32-bit words at multiples of 4 below
0x100; buffers are bytes below the capacity. -/
def resolve (p : Params) (addr : Word) (width : Width) : Except Refusal Target :=
  if addr.toNat < 0x100 then
    if addr.toNat % 4 = 0 ∧ width = .word then .ok (.register addr.toNat) else .error .registerAccessForm
  else
    match windowOf addr.toNat with
    | none => .error .unmappedAddress
    | some sp =>
      if p.cap sp ≤ addr.toNat % 0x10000000 then .error .beyondCapacity
      else if width = .byte then .ok (.buffer sp (addr.toNat % 0x10000000))
      else .error .bufferAccessWidth

end Sys2Proof.Machine
end

