-- ==== Sys2Proof/Machine/Ops.lean ====
section
/-! DEFINITION. The named operations: buffer reads and writes (20_memory.md R61), the stream ports (R70, R71),
the compression service's calls (42_framer.md R160, R162), error entry (60_exceptions.md R275) and the two
resets (70_reset_and_hazards.md R300 to R302). -/

namespace Sys2Proof.Machine

/-! ## Buffers -/

/-- The byte written at an offset, if one was. -/
def findByte : Memory → Nat → Option Byte
  | [], _ => none
  | (k, b) :: m, a => if k = a then some b else findByte m a

/-- Write one byte, keeping the offsets strictly rising. -/
def putByte : Memory → Nat → Byte → Memory
  | [], a, v => [(a, v)]
  | (k, b) :: m, a, v =>
    if a < k then (a, v) :: (k, b) :: m
    else if a = k then (a, v) :: m
    else (k, b) :: putByte m a v

/-- Write a byte sequence from an offset up, in ascending order. -/
def putBytes : Memory → Nat → List Byte → Memory
  | m, _, [] => m
  | m, a, v :: s => putBytes (putByte m a v) (a + 1) s

/-- The contents of a buffer. -/
def buffer (s : State) : Space → Memory
  | .slb => s.slb
  | .pix => s.pix
  | .csb => s.csb

/-- Replace the contents of a buffer. -/
def setBuffer (s : State) (sp : Space) (m : Memory) : State :=
  match sp with
  | .slb => { s with slb := m }
  | .pix => { s with pix := m }
  | .csb => { s with csb := m }

/-- The byte a buffer holds at an offset: the byte last written there since power-on, else the byte power-on
left there, a free value (20_memory.md R61, R69). -/
def readByte (s : State) (sp : Space) (a : Nat) : Byte :=
  match findByte (buffer s sp) a with
  | some b => b
  | none => Config.powerOnByte s.powerCycles sp a

/-- MemRead(space, addr, n) (R10, R61). -/
def memRead (s : State) (sp : Space) (addr n : Nat) : List Byte :=
  (List.range n).map fun j => readByte s sp (addr + j)

/-- MemWrite(space, addr, |bytes|, bytes) (R10, R61). -/
def memWrite (s : State) (sp : Space) (addr : Nat) (bytes : List Byte) : State :=
  setBuffer s sp (putBytes (buffer s sp) addr bytes)

/-! ## How a command's pseudocode ends -/

/-- The end of a piece of pseudocode (00_scope.md R10): it went through, it raised an error, or it is
blocked on a stream for ever. The state is the one reached, in every case (60_exceptions.md R276). -/
inductive Result (α : Type) where
  | ok (a : α) (s : State)
  | raised (e : ErrKind) (s : State)
  | blocked (h : Hang) (s : State)
deriving DecidableEq, Repr

/-- Go on with the next piece of pseudocode where the first went through. -/
def Result.andThen {α β : Type} (r : Result α) (f : α → State → Result β) : Result β :=
  match r with
  | .ok a s => f a s
  | .raised e s => .raised e s
  | .blocked h s => .blocked h s

/-- `require cond else E` (R10). -/
def require (cond : Bool) (e : ErrKind) (s : State) : Result Unit :=
  if cond then .ok () s else .raised e s

/-! ## Taking an error -/

/-- Error entry (60_exceptions.md R275): ERR, ERRCODE and ERROP; nothing else is saved or changed. -/
def errorEntry (op : Byte) (e : ErrKind) (s : State) : State :=
  { s with regs := { s.regs with status := statusError op e s.regs.status } }

/-- The state a command leaves: as its pseudocode left it, with error entry where it raised an error; a
blocked command leaves the block hung (70_reset_and_hazards.md R313). -/
def settle (op : Byte) (r : Result Unit) : State :=
  match r with
  | .ok _ s => s
  | .raised e s => errorEntry op e s
  | .blocked h s => { s with hung := some h }

/-- A command other than RESET: ignored while STATUS.ERR = 1 (60_exceptions.md R273), else run to its end. -/
def runCommand (op : Byte) (body : State → Result Unit) (s : State) : Host.Outcome State Fault Refusal :=
  .next (if s.regs.status.err then s else settle op (body s))

/-! ## Register updates -/

/-- reg[UF_ROW] <- v (10_state.md R37). -/
def setUfRow (v : Word) (s : State) : State := { s with regs := { s.regs with ufRow := v } }

/-- reg[UP_ROW] <- v (10_state.md R38). -/
def setUpRow (v : Word) (s : State) : State := { s with regs := { s.regs with upRow := v } }

/-- reg[PK_ROW] <- v (10_state.md R39). -/
def setPkRow (v : Word) (s : State) : State := { s with regs := { s.regs with pkRow := v } }

/-- reg[FE_LEFT] <- v (10_state.md R40). -/
def setFeLeft (v : Word) (s : State) : State := { s with regs := { s.regs with feLeft := v } }

/-- reg[CRC_ACC] <- v (10_state.md R41). -/
def setCrcAcc (v : Word) (s : State) : State := { s with regs := { s.regs with crcAcc := v } }

/-- reg[CRC_EXPECT] <- expect; reg[CRC_ACC] <- acc (42_framer.md R164). -/
def loadCrcs (expect acc : Word) (s : State) : State :=
  { s with regs := { s.regs with crcExpect := expect, crcAcc := acc } }

/-- reg[CHUNK_LEN] <- len; reg[CHUNK_TYPE] <- ty (10_state.md R44, R45). -/
def setChunk (len ty : Word) (s : State) : State :=
  { s with regs := { s.regs with chunkLen := len, chunkType := ty } }

/-- reg[FR_OUT] <- v (10_state.md R46). -/
def setFrOut (v : Word) (s : State) : State := { s with regs := { s.regs with frOut := v } }

/-- reg[IDAT_COUNT] <- v (10_state.md R49). -/
def setIdatCount (v : Word) (s : State) : State := { s with regs := { s.regs with idatCount := v } }

/-! ## Stream ports -/

/-- The state after n bytes have come from the source, which is left as `src`: IN_POS advances by n mod 2^32
(20_memory.md R70). -/
def received (s : State) (src : Source) (n : Nat) : State :=
  { s with source := src, regs := { s.regs with inPos := s.regs.inPos + BitVec.ofNat 32 n } }

/-- The state after the sink has accepted the first k of the bytes offered: they are the next bytes of OUT and
OUT_POS advances by k mod 2^32 (20_memory.md R71). -/
def sent (s : State) (bytes : List Byte) (k : Nat) : State :=
  { s with
    sink := ⟨s.sink.script.tail, s.sink.drawn + 1⟩
    out := s.out ++ bytes.take k
    regs := { s.regs with outPos := s.regs.outPos + BitVec.ofNat 32 k } }

/-- SOURCE's answer to a read of `n` bytes, at most `n` of them (20_memory.md R70); `none`: it never answers. -/
def sourceAnswer (src : Source) (n : Nat) : Option (List Byte) :=
  match src with
  | .stream rest => some (rest.take n)
  | .oracle (a :: _) _ => a.map (List.take n)
  | .oracle [] k => (Config.sourceDraw k n).map (List.take n)

/-- SOURCE after it has answered a read of `n` bytes. -/
def sourceNext (src : Source) (n : Nat) : Source :=
  match src with
  | .stream rest => .stream (rest.drop n)
  | .oracle script k => .oracle script.tail (k + 1)

/-- StreamRead(n) (R10, R70): the bytes SOURCE answers, IN_POS advanced by their number. A read of 0 bytes
transfers nothing and never fails. The caller raises IoError on a short answer. -/
def streamRead (n : Nat) (s : State) : Result (List Byte) :=
  if n = 0 then .ok [] s
  else
    match sourceAnswer s.source n with
    | none => .blocked .source s
    | some a => .ok a (received s (sourceNext s.source n) a.length)

/-- How many bytes of `bytes` SINK accepts (20_memory.md R71), at most all; `none`: it never answers. -/
def sinkAnswer (snk : Sink) (bytes : List Byte) : Option Nat :=
  match snk.script with
  | k :: _ => k.map (min bytes.length)
  | [] => (Config.sinkDraw snk.drawn bytes).map (min bytes.length)

/-- StreamWrite(bytes) (R10, R71): SINK accepts a prefix, which becomes the next bytes of OUT; OUT_POS advances
by its length; a short transfer raises IoError. An empty write never fails. -/
def streamWrite (bytes : List Byte) (s : State) : Result Unit :=
  if bytes = [] then .ok () s
  else
    match sinkAnswer s.sink bytes with
    | none => .blocked .sink s
    | some k => require (k == bytes.length) .ioError (sent s bytes k)

/-! ## Resets -/

/-- The RESET command's effect (70_reset_and_hazards.md R300, R302): registers, FR_ZST, session; the block is
idle. Buffers, streams and the service keep what they hold. -/
def softReset (s : State) : State :=
  { s with regs := Regs.reset, frZst := .more, session := none, running := false, hung := none }

/-- SOURCE at a power-on: a read that it left unanswered is given up with no byte transferred, so the next read is a
fresh draw and SOURCE may answer it or not. The rules are silent on it: DESIGN CHOICE, log entry 16. -/
def abandonRead (s : State) : Source :=
  if s.hung = some .source then sourceNext s.source 0 else s.source

/-- SINK at a power-on: a write that it left unanswered is given up with no byte accepted, so the next write is a fresh
draw and SINK may answer it or not. The rules are silent on it: DESIGN CHOICE, log entry 16. -/
def abandonWrite (s : State) : Sink :=
  if s.hung = some .sink then ⟨s.sink.script.tail, s.sink.drawn + 1⟩ else s.sink

/-- Power-on reset (R300, R301): as RESET, and every buffer byte is a fresh free draw; a stream access that a hang left
unanswered is given up (log entry 16). -/
def powerOnReset (s : State) : State :=
  { softReset s with
    slb := [], pix := [], csb := [], powerCycles := s.powerCycles + 1
    source := abandonRead s, sink := abandonWrite s }

/-! ## The compression service -/

/-- InflateOpen() (42_framer.md R160): a fresh session; FR_ZST becomes `more` (10_state.md R52, 42_framer.md R169). -/
def inflateOpen (s : State) : State :=
  { s with
    session := some s.inflater.opened
    frZst := .more
    inflater := { s.inflater with opened := s.inflater.opened + 1 } }

/-- Keep an answer within the contract's bounds (R160): at most the input consumed, at most `room` bytes out. -/
def inflateBound (input : List Byte) (room : Nat) (a : InflateAnswer) : InflateAnswer :=
  ⟨min input.length a.consumed, a.output.take room, a.status⟩

/-- The answer of Inflate(session, input, room) (R160). -/
def inflateAnswer (s : State) (input : List Byte) (room : Nat) : InflateAnswer :=
  inflateBound input room <|
    match s.inflater.script with
    | a :: _ => a
    | [] => Config.inflateDraw (s.session.getD 0) s.inflater.drawn input room

/-- The state after an Inflate call that answered the status `st`: one answer of the inflater is used up and
FR_ZST holds the status (10_state.md R52). -/
def inflateCalled (st : InflateStatus) (s : State) : State :=
  { s with
    inflater := { s.inflater with script := s.inflater.script.tail, drawn := s.inflater.drawn + 1 }
    frZst := st }

/-- Keep an answer within the contract's bound (R162): when it is `ok`, at most `cap` bytes. -/
def deflateBound (cap : Nat) (a : DeflateAnswer) : DeflateAnswer := ⟨a.output.take cap, a.ok⟩

/-- The answer of Deflate(input, cap) (R162). -/
def deflateAnswer (s : State) (input : List Byte) (cap : Nat) : DeflateAnswer :=
  deflateBound cap <|
    match s.deflater.script with
    | a :: _ => a
    | [] => Config.deflateDraw s.deflater.drawn input cap

/-- The state after a Deflate call: one answer of the deflater is used up. -/
def deflateCalled (s : State) : State :=
  { s with deflater := ⟨s.deflater.script.tail, s.deflater.drawn + 1⟩ }

end Sys2Proof.Machine
end

