-- ==== Sys2Proof/Machine/Filter.lean ====
section
/-! DEFINITION. The scanline filters and the commands UNFILTER_ROW, UNFILTER_ALL, FILTER_ROW and FILTER_ALL
(43_filter.md). -/

namespace Sys2Proof.Machine

/-- add8 (43_filter.md R200). -/
def add8 (x y : Byte) : Byte := x + y

/-- sub8 (43_filter.md R200). -/
def sub8 (x y : Byte) : Byte := x - y

/-- |x − y| of two integers, as in R203. -/
def distance (x y : Int) : Nat := (x - y).natAbs

/-- The Paeth predictor in exact integer arithmetic (43_filter.md R203). -/
def paeth (a b c : Byte) : Byte :=
  let p : Int := (a.toNat : Int) + (b.toNat : Int) - (c.toNat : Int)
  let pa := distance p a.toNat
  let pb := distance p b.toNat
  let pc := distance p c.toNat
  if pa ≤ pb ∧ pa ≤ pc then a else if pb ≤ pc then b else c

/-- The predictor by filter type (43_filter.md R202). Average adds exactly before it halves. -/
def pred (ft : FilterType) (a b c : Byte) : Byte :=
  match ft with
  | .none => 0#8
  | .sub => a
  | .up => b
  | .average => BitVec.ofNat 8 ((a.toNat + b.toNat) / 2)
  | .paeth => paeth a b c

/-- The byte `stride` positions to the left of byte x of a row, 0 if none (R201, neighbours a and c). -/
def leftByte (stride : Nat) (row : List Byte) (x : Nat) : Byte :=
  if stride ≤ x then row.getD (x - stride) 0#8 else 0#8

/-- The byte directly above byte x, 0 if there is no row above (R201, neighbour b). -/
def aboveByte (prev : Option (List Byte)) (x : Nat) : Byte :=
  match prev with
  | none => 0#8
  | some p => p.getD x 0#8

/-- The byte diagonally up-left of byte x, 0 if unavailable (R201, neighbour c). -/
def aboveLeftByte (stride : Nat) (prev : Option (List Byte)) (x : Nat) : Byte :=
  match prev with
  | none => 0#8
  | some p => leftByte stride p x

/-- The prediction for byte x of a row, from the row itself and the row above (R201, R202). -/
def predictAt (ft : FilterType) (stride : Nat) (prev : Option (List Byte)) (row : List Byte) (x : Nat) : Byte :=
  pred ft (leftByte stride row x) (aboveByte prev x) (aboveLeftByte stride prev x)

/-- The loop of unfilterRow: `out` is done, `rest` is still filtered. The row being built is `out ++ rest`,
so the left neighbour is a byte already reconstructed (R204). -/
def unfilterFrom (ft : FilterType) (stride : Nat) (prev : Option (List Byte)) : List Byte → List Byte → List Byte
  | out, [] => out
  | out, v :: rest =>
    unfilterFrom ft stride prev (out ++ [add8 v (predictAt ft stride prev (out ++ v :: rest) out.length)]) rest

/-- unfilterRow (43_filter.md R204): reconstruct a row, bytes in ascending order. `prev` is the row above,
none for row 0. -/
def unfilterRow (ft : FilterType) (stride : Nat) (prev : Option (List Byte)) (cur : List Byte) : List Byte :=
  unfilterFrom ft stride prev [] cur

/-- filterRow (43_filter.md R207): the residuals of a raw row, predicted from raw bytes. -/
def filterRow (ft : FilterType) (stride : Nat) (prev : Option (List Byte)) (raw : List Byte) : List Byte :=
  (List.range raw.length).map fun x => sub8 (raw.getD x 0#8) (predictAt ft stride prev raw x)

/-- The data bytes of SLB row i (20_memory.md R62). -/
def slbRow (s : State) (i : Nat) : List Byte := memRead s .slb (dataAt s.regs i 0) s.regs.pitch.toNat

/-- The data bytes of the row above row i, none for row 0 (R205, R208). -/
def slbRowAbove (s : State) (i : Nat) : Option (List Byte) :=
  if 1 ≤ i then some (slbRow s (i - 1)) else none

/-- The filter-type byte of SLB row i (20_memory.md R62). -/
def filterByte (s : State) (i : Nat) : Byte := readByte s .slb (filtAt s.regs i)

/-! ## The filter decoder -/

/-- The body of UNFILTER_ROW from `i <- reg[UF_ROW]` on, the row-count check aside (43_filter.md R205). -/
def unfilterNext (s : State) : Result Unit :=
  let i := s.regs.ufRow.toNat
  match filterTypeOf (filterByte s i) with
  | none => .raised .unknownFilterError s
  | some ft =>
    let s := memWrite s .slb (dataAt s.regs i 0)
      (unfilterRow ft s.regs.stride.toNat (slbRowAbove s i) (slbRow s i))
    .ok () (setUfRow (s.regs.ufRow + 1#32) s)

/-- UNFILTER_ROW's pseudocode (43_filter.md R205). -/
def unfilterOne (s : State) : Result Unit :=
  (require s.regs.status.cfg .sequenceError s).andThen fun _ s =>
  (require (s.regs.ufRow.toNat < s.regs.height.toNat) .sequenceError s).andThen fun _ s => unfilterNext s

/-- UNFILTER_ROW: reconstruct the next scanline in place (43_filter.md R205). -/
def execUnfilterRow (s : State) : Host.Outcome State Fault Refusal :=
  runCommand 0x30#8 unfilterOne s

/-- A row command's body, at most `n` times, stopping at the first error (R206, R209; 44_bitdepth.md R242, R245). -/
def repeatRows (body : State → Result Unit) : Nat → State → Result Unit
  | 0, s => .ok () s
  | n + 1, s => (body s).andThen fun _ s => repeatRows body n s

/-- UNFILTER_ALL's pseudocode (43_filter.md R206): the loop runs HEIGHT − UF_ROW times. -/
def unfilterAll (s : State) : Result Unit :=
  (require s.regs.status.cfg .sequenceError s).andThen fun _ s =>
    repeatRows unfilterNext (s.regs.height.toNat - s.regs.ufRow.toNat) s

/-- UNFILTER_ALL: reconstruct every remaining scanline (43_filter.md R206). -/
def execUnfilterAll (s : State) : Host.Outcome State Fault Refusal :=
  runCommand 0x31#8 unfilterAll s

/-! ## The filter encoder -/

/-- The body of FILTER_ROW from `i <- reg[FE_LEFT] - 1` on (43_filter.md R208): both rows are read before
anything is written. -/
def filterNext (ftByte : Byte) (ft : FilterType) (s : State) : Result Unit :=
  let i := s.regs.feLeft.toNat - 1
  let row := filterRow ft s.regs.stride.toNat (slbRowAbove s i) (slbRow s i)
  let s := memWrite s .slb (filtAt s.regs i) [ftByte]
  let s := memWrite s .slb (dataAt s.regs i 0) row
  .ok () (setFeLeft (BitVec.ofNat 32 i) s)

/-- A FILTER command with its operand: an ARG that names no filter type decodes to no command and raises
IllegalCommand (30_encoding.md R93, R104), before any check of the command's own. -/
def withFilterType (ftByte : Byte) (body : FilterType → State → Result Unit) (s : State) : Result Unit :=
  match filterTypeOf ftByte with
  | none => .raised .illegalCommand s
  | some ft => body ft s

/-- FILTER_ROW's pseudocode (43_filter.md R208). -/
def filterOne (ftByte : Byte) (ft : FilterType) (s : State) : Result Unit :=
  (require s.regs.status.cfg .sequenceError s).andThen fun _ s =>
  (require (1 ≤ s.regs.feLeft.toNat) .sequenceError s).andThen fun _ s => filterNext ftByte ft s

/-- FILTER_ROW ft: filter the lowest unfiltered scanline in place (43_filter.md R208). -/
def execFilterRow (ft : Byte) (s : State) : Host.Outcome State Fault Refusal :=
  runCommand 0x32#8 (withFilterType ft (filterOne ft)) s

/-- FILTER_ALL's pseudocode (43_filter.md R209): the loop runs FE_LEFT times. -/
def filterAll (ftByte : Byte) (ft : FilterType) (s : State) : Result Unit :=
  (require s.regs.status.cfg .sequenceError s).andThen fun _ s =>
    repeatRows (filterNext ftByte ft) s.regs.feLeft.toNat s

/-- FILTER_ALL ft: filter every remaining scanline with one filter type (43_filter.md R209). -/
def execFilterAll (ft : Byte) (s : State) : Host.Outcome State Fault Refusal :=
  runCommand 0x33#8 (withFilterType ft (filterAll ft)) s

end Sys2Proof.Machine
end

