-- ==== Sys2Proof/Machine/BitDepth.lean ====
section
/-! DEFINITION. The bit-depth unpacker and packer: UNPACK_ROW, UNPACK_ALL, PACK_ROW and PACK_ALL
(44_bitdepth.md). -/

namespace Sys2Proof.Machine

/-- The largest sample value at bit depth D, 2^D − 1 (44_bitdepth.md R240, R244). -/
def maxSample (depth : Nat) : Nat := 2 ^ depth - 1

/-- How far sample k of a row lies above bit 0 of its byte: 8 − D − (k·D mod 8) (R240, R243). -/
def sampleShift (depth k : Nat) : Nat := 8 - depth - k * depth % 8

/-- Sample k of a packed row at a depth below 8 (R240). -/
def sampleAt (depth : Nat) (row : List Byte) (k : Nat) : Byte :=
  (row.getD (k * depth / 8) 0#8 >>> sampleShift depth k) &&& BitVec.ofNat 8 (maxSample depth)

/-- unpackRow (44_bitdepth.md R240): n samples from a packed row. -/
def unpackRow (depth n : Nat) (row : List Byte) : List Byte :=
  if depth = 8 then row.take n else (List.range n).map (sampleAt depth row)

/-- One turn of packRow's loop (R243): OR sample k into its byte. -/
def packSample (depth : Nat) (samples : List Byte) (out : List Byte) (k : Nat) : List Byte :=
  let at8 := k * depth / 8
  out.set at8 (out.getD at8 0#8 ||| (samples.getD k 0#8 <<< sampleShift depth k))

/-- packRow (44_bitdepth.md R243): n samples into a row of `pitch` bytes, the padding bits 0. -/
def packRow (depth pitch n : Nat) (samples : List Byte) : List Byte :=
  if depth = 8 then samples.take n
  else (List.range n).foldl (packSample depth samples) (List.replicate pitch 0#8)

/-! ## The unpacker -/

/-- The body of UNPACK_ROW from `r <- reg[UP_ROW]` on, the row-count check aside (44_bitdepth.md R241). -/
def unpackNext (s : State) : Result Unit :=
  let r := s.regs.upRow.toNat
  let s := memWrite s .pix (pixAt s.regs r 0)
    (unpackRow s.regs.bitDepth.toNat (samplesPerRow s.regs) (slbRow s r))
  .ok () (setUpRow (s.regs.upRow + 1#32) s)

/-- UNPACK_ROW's pseudocode (44_bitdepth.md R241). -/
def unpackOne (s : State) : Result Unit :=
  (require s.regs.status.cfg .sequenceError s).andThen fun _ s =>
  (require (s.regs.upRow.toNat < s.regs.height.toNat) .sequenceError s).andThen fun _ s => unpackNext s

/-- UNPACK_ROW: unpack the next row into PIX (44_bitdepth.md R241). -/
def execUnpackRow (s : State) : Host.Outcome State Fault Refusal :=
  runCommand 0x40#8 unpackOne s

/-- UNPACK_ALL's pseudocode (44_bitdepth.md R242): the loop runs HEIGHT − UP_ROW times. -/
def unpackAll (s : State) : Result Unit :=
  (require s.regs.status.cfg .sequenceError s).andThen fun _ s =>
    repeatRows unpackNext (s.regs.height.toNat - s.regs.upRow.toNat) s

/-- UNPACK_ALL: unpack every remaining row (44_bitdepth.md R242). -/
def execUnpackAll (s : State) : Host.Outcome State Fault Refusal :=
  runCommand 0x41#8 unpackAll s

/-! ## The packer -/

/-- The samples of PIX row r (20_memory.md R63). -/
def pixRow (s : State) (r : Nat) : List Byte := memRead s .pix (pixAt s.regs r 0) (samplesPerRow s.regs)

/-- Every sample fits the depth, or the depth is 8 (44_bitdepth.md R244). -/
def samplesFit (depth : Nat) (samples : List Byte) : Bool :=
  !(depth < 8) || samples.all fun v => v.toNat ≤ maxSample depth

/-- The body of PACK_ROW from `r <- reg[PK_ROW]` on, the row-count check aside (44_bitdepth.md R244): a sample
out of range writes nothing. -/
def packNext (s : State) : Result Unit :=
  let r := s.regs.pkRow.toNat
  let samples := pixRow s r
  (require (samplesFit s.regs.bitDepth.toNat samples) .sampleRangeError s).andThen fun _ s =>
    let s := memWrite s .slb (filtAt s.regs r) [0#8]
    let s := memWrite s .slb (dataAt s.regs r 0)
      (packRow s.regs.bitDepth.toNat s.regs.pitch.toNat (samplesPerRow s.regs) samples)
    .ok () (setPkRow (s.regs.pkRow + 1#32) s)

/-- PACK_ROW's pseudocode (44_bitdepth.md R244). -/
def packOne (s : State) : Result Unit :=
  (require s.regs.status.cfg .sequenceError s).andThen fun _ s =>
  (require (s.regs.pkRow.toNat < s.regs.height.toNat) .sequenceError s).andThen fun _ s => packNext s

/-- PACK_ROW: pack the next PIX row into SLB with filter type None (44_bitdepth.md R244). -/
def execPackRow (s : State) : Host.Outcome State Fault Refusal :=
  runCommand 0x42#8 packOne s

/-- PACK_ALL's pseudocode (44_bitdepth.md R245): the loop runs HEIGHT − PK_ROW times. -/
def packAll (s : State) : Result Unit :=
  (require s.regs.status.cfg .sequenceError s).andThen fun _ s =>
    repeatRows packNext (s.regs.height.toNat - s.regs.pkRow.toNat) s

/-- PACK_ALL: pack every remaining row (44_bitdepth.md R245). -/
def execPackAll (s : State) : Host.Outcome State Fault Refusal :=
  runCommand 0x43#8 packAll s

end Sys2Proof.Machine
end

