-- ==== Sys2Proof/Machine/Control.lean ====
section
/-! DEFINITION. The control and configuration commands NOP, RESET and CONFIGURE (40_control.md). -/

namespace Sys2Proof.Machine

/-- NOP: no operation (40_control.md R120). -/
def execNop (s : State) : Host.Outcome State Fault Refusal :=
  runCommand 0x00#8 (Result.ok ()) s

/-- RESET: soft reset; the one command that runs while STATUS.ERR = 1 (40_control.md R121, 60_exceptions.md R273). -/
def execReset (s : State) : Host.Outcome State Fault Refusal :=
  .next (softReset s)

/-- The checks of CONFIGURE in their order (40_control.md R124): the error of the first that fails. -/
def configureError (r : Regs) : Option ErrKind :=
  let ct := r.colorType.toNat
  let d := r.bitDepth.toNat
  if channelsOf r.colorType = none then some .corruptedError
  else if ¬ (d = 1 ∨ d = 2 ∨ d = 4 ∨ d = 8 ∨ d = 16) then some .corruptedError
  else if ct = 3 ∧ ¬ d ≤ 8 then some .corruptedError
  else if (ct = 2 ∨ ct = 4 ∨ ct = 6) ∧ ¬ 8 ≤ d then some .corruptedError
  else if ¬ (r.compression = 0#8 ∧ r.filterMethod = 0#8) then some .corruptedError
  else if ¬ r.interlace.toNat ≤ 1 then some .corruptedError
  else if ¬ (1 ≤ r.width.toNat ∧ 1 ≤ r.height.toNat) then some .corruptedError
  else if d = 16 then some .notSupportedError
  else if r.interlace.toNat = 1 then some .notSupportedError
  else none

/-- The channel count N of the colour type in COLOR_TYPE (R123), 0 for an unknown one. -/
def geomChannels (r : Regs) : Nat := (channelsOf r.colorType).getD 0

/-- The stride S = ceil(D·N / 8) (R125). -/
def geomStride (r : Regs) : Nat := ceilDiv (r.bitDepth.toNat * geomChannels r) 8

/-- The pitch P = ceil(W·D·N / 8) (R125). -/
def geomPitch (r : Regs) : Nat := ceilDiv (r.width.toNat * r.bitDepth.toNat * geomChannels r) 8

/-- The scanline buffer length slb = H·(P + 1) (R125). -/
def geomSlb (r : Regs) : Nat := r.height.toNat * (geomPitch r + 1)

/-- The pixel buffer length pix = W·H·N (R125). -/
def geomPix (r : Regs) : Nat := r.width.toNat * r.height.toNat * geomChannels r

/-- The registers CONFIGURE commits (R127). -/
def configureCommit (r : Regs) : Regs :=
  { r with
    channels := BitVec.ofNat 3 (geomChannels r)
    stride := BitVec.ofNat 3 (geomStride r)
    pitch := BitVec.ofNat 32 (geomPitch r)
    slbSize := BitVec.ofNat 32 (geomSlb r)
    pixSize := BitVec.ofNat 32 (geomPix r)
    ufRow := 0#32
    upRow := 0#32
    pkRow := 0#32
    feLeft := r.height
    frOut := 0#32
    idatCount := 0#32
    status := { r.status with frState := .idle, cfg := true } }

/-- The state CONFIGURE leaves (R127): the registers committed, FR_ZST `more`, any session closed. -/
def commitConfiguration (s : State) : State :=
  { s with regs := configureCommit s.regs, frZst := .more, session := none }

/-- CONFIGURE's pseudocode: the checks R124, the derivation R125, the capacity check R126, the commit R127. -/
def configure (s : State) : Result Unit :=
  match configureError s.regs with
  | some e => .raised e s
  | none =>
    (require (geomSlb s.regs ≤ s.params.slbCap && geomPix s.regs ≤ s.params.pixCap) .memoryError s).andThen fun _ s =>
      .ok () (commitConfiguration s)

/-- CONFIGURE: validate the image descriptor and derive its geometry (40_control.md R122). -/
def execConfigure (s : State) : Host.Outcome State Fault Refusal :=
  runCommand 0x02#8 configure s

end Sys2Proof.Machine
end

