-- ==== Sys2Proof/Machine/Crc.lean ====
section
/-! DEFINITION. The CRC-32 function and the commands CRC_INIT, CRC_TYPE, CRC_CSB and CRC_CHECK (41_crc.md). -/

namespace Sys2Proof.Machine

/-- One bit of a CRC step (41_crc.md R140): shift right, folding the reflected polynomial in when the bit
shifted out is 1. -/
def crcShift (c : Word) : Word :=
  if c.getLsbD 0 then (c >>> 1) ^^^ 0xEDB88320#32 else c >>> 1

/-- crcShift, `n` times. -/
def crcShifts : Nat → Word → Word
  | 0, c => c
  | n + 1, c => crcShifts n (crcShift c)

/-- crcStep(c, v) (R140): fold one byte into the accumulator. -/
def crcStep (c : Word) (v : Byte) : Word := crcShifts 8 (c ^^^ v.setWidth 32)

/-- crcFold(c, s) (R141): fold a byte sequence in order. -/
def crcFold (c : Word) (s : List Byte) : Word := s.foldl crcStep c

/-- crcAcc(T, p) (R141): the accumulator over a chunk's type tag and payload. -/
def chunkCrcAcc (t : Word) (p : List Byte) : Word := crcFold 0xFFFFFFFF#32 (be32 t ++ p)

/-- crcOf(T, p) (R141): the CRC of a chunk. -/
def chunkCrc (t : Word) (p : List Byte) : Word := chunkCrcAcc t p ^^^ 0xFFFFFFFF#32

/-- CRC_INIT: start a CRC (41_crc.md R142). -/
def execCrcInit (s : State) : Host.Outcome State Fault Refusal :=
  runCommand 0x10#8 (fun s => .ok () (setCrcAcc 0xFFFFFFFF#32 s)) s

/-- CRC_TYPE: fold the chunk type tag, first stream byte first (41_crc.md R143). -/
def execCrcType (s : State) : Host.Outcome State Fault Refusal :=
  runCommand 0x11#8 (fun s => .ok () (setCrcAcc (crcFold s.regs.crcAcc (be32 s.regs.chunkType)) s)) s

/-- CRC_CSB's pseudocode (41_crc.md R144). -/
def crcCsb (s : State) : Result Unit :=
  (require (s.regs.chunkLen.toNat ≤ s.params.csbCap) .memoryError s).andThen fun _ s =>
    .ok () (setCrcAcc (crcFold s.regs.crcAcc (memRead s .csb 0 s.regs.chunkLen.toNat)) s)

/-- CRC_CSB: fold a payload held in CSB (41_crc.md R144). -/
def execCrcCsb (s : State) : Host.Outcome State Fault Refusal :=
  runCommand 0x12#8 crcCsb s

/-- CRC_CHECK: compare the CRC with the expected value (41_crc.md R145). -/
def execCrcCheck (s : State) : Host.Outcome State Fault Refusal :=
  runCommand 0x13#8 (fun s => require (crcResult s.regs == s.regs.crcExpect) .crcError s) s

end Sys2Proof.Machine
end

