-- ==== Sys2Proof/Machine/Framer.lean ====
section
/-! DEFINITION. The compressed chunk framer: CHUNK_HDR, CHUNK_READ, CHUNK_SKIP, CHUNK_EMIT, IDAT_RUN and
IDAT_EMIT (42_framer.md). -/

namespace Sys2Proof.Machine

/-- Latch a chunk header of eight stream bytes: length, then type (42_framer.md R165, R171). -/
def latchHeader (h : List Byte) (s : State) : State :=
  setChunk (unBe32 (h.take 4)) (unBe32 (h.drop 4)) s

/-- Read a chunk header from the source and latch it; a short read is IoError and latches nothing (R165, R171). -/
def readHeader (s : State) : Result Unit :=
  (streamRead 8 s).andThen fun h s =>
    (require (h.length == 8) .ioError s).andThen fun _ s => .ok () (latchHeader h s)

/-- The check at the end of readBody (R164): CRC_EXPECT and CRC_ACC are loaded, then compared. -/
def checkBody (t : Word) (p q : List Byte) (s : State) : Result (List Byte) :=
  let s := loadCrcs (unBe32 q) (chunkCrcAcc t p) s
  (require (crcResult s.regs == s.regs.crcExpect) .crcError s).andThen fun _ s => .ok p s

/-- The second half of readBody (R164): read the CRC field and check it. -/
def readCrc (t : Word) (p : List Byte) (s : State) : Result (List Byte) :=
  (streamRead 4 s).andThen fun q s =>
  (require (q.length == 4) .ioError s).andThen fun _ s => checkBody t p q s

/-- readBody(T) (R164): read payload and CRC of the chunk whose header is latched, keep the payload bytes
received in CSB, check the CRC. -/
def readBody (t : Word) (s : State) : Result (List Byte) :=
  let n := s.regs.chunkLen.toNat
  (require (n ≤ s.params.csbCap) .memoryError s).andThen fun _ s =>
  (streamRead n s).andThen fun p s =>
  (require (p.length == n) .ioError (memWrite s .csb 0 p)).andThen fun _ s => readCrc t p s

/-- CHUNK_HDR: read a chunk header (42_framer.md R165). -/
def execChunkHdr (s : State) : Host.Outcome State Fault Refusal :=
  runCommand 0x20#8 readHeader s

/-- CHUNK_READ: read a chunk's payload into CSB and check its CRC (42_framer.md R166). -/
def execChunkRead (s : State) : Host.Outcome State Fault Refusal :=
  runCommand 0x21#8 (fun s => (readBody s.regs.chunkType s).andThen fun _ s => .ok () s) s

/-- CHUNK_SKIP's pseudocode (42_framer.md R167): n + 4 in exact arithmetic, the bytes discarded. -/
def chunkSkip (s : State) : Result Unit :=
  let n := s.regs.chunkLen.toNat
  (streamRead (n + 4) s).andThen fun d s => require (d.length == n + 4) .ioError s

/-- CHUNK_SKIP: discard a chunk's payload and CRC unread (42_framer.md R167). -/
def execChunkSkip (s : State) : Host.Outcome State Fault Refusal :=
  runCommand 0x22#8 chunkSkip s

/-- The bytes of one chunk in the stream (00_scope.md R7, 42_framer.md R168): length, type, payload, CRC. -/
def chunkBytes (t : Word) (p : List Byte) : List Byte :=
  be32 (BitVec.ofNat 32 p.length) ++ be32 t ++ p ++ be32 (chunkCrc t p)

/-- Write one chunk to the sink, leaving its accumulator in CRC_ACC (R168, R174). -/
def emitChunk (t : Word) (p : List Byte) (s : State) : Result Unit :=
  streamWrite (chunkBytes t p) (setCrcAcc (chunkCrcAcc t p) s)

/-- CHUNK_EMIT's pseudocode (42_framer.md R168). -/
def chunkEmit (s : State) : Result Unit :=
  let n := s.regs.chunkLen.toNat
  (require (n ≤ s.params.csbCap) .memoryError s).andThen fun _ s =>
    emitChunk s.regs.chunkType (memRead s .csb 0 n) s

/-- CHUNK_EMIT: write one chunk from CSB (42_framer.md R168). -/
def execChunkEmit (s : State) : Host.Outcome State Fault Refusal :=
  runCommand 0x23#8 chunkEmit s

/-! ## The IDAT run -/

/-- The start of a run (R169): a fresh session, the counts cleared, the run in progress. -/
def beginRun (s : State) : State :=
  { inflateOpen s with regs := { s.regs with frOut := 0#32, idatCount := 0#32 }, running := true }

/-- The end of a run that passed its end check (R172). -/
def finishRun (s : State) : State :=
  { s with regs := { s.regs with status := { s.regs.status with frState := .done } }, running := false }

/-- Error entry for an error raised in a run (R173, 60_exceptions.md R275): FR_STATE becomes FAILED as well, and
the run is over. -/
def failRun (e : ErrKind) (s : State) : State :=
  { s with
    regs := { s.regs with status := statusError 0x24#8 e { s.regs.status with frState := .failed } }
    running := false }

/-- IDAT_RUN, part 1 (42_framer.md R169): the preconditions, then a fresh session and cleared counts. -/
def idatStart (s : State) : Result Unit :=
  (require s.regs.status.cfg .sequenceError s).andThen fun _ s =>
  (require (s.regs.chunkType == idatTag) .sequenceError s).andThen fun _ s =>
  (require (s.regs.status.frState == .idle) .corruptedError s).andThen fun _ s =>
    .ok () (beginRun s)

/-- The room left for decompressed bytes, SLB_SIZE − FR_OUT (R170). -/
def idatRoom (r : Regs) : Nat := r.slbSize.toNat - r.frOut.toNat

/-- Write decompressed bytes into SLB at FR_OUT and count them (R170). -/
def bufferOutput (o : List Byte) (s : State) : State :=
  setFrOut (s.regs.frOut + BitVec.ofNat 32 o.length) (memWrite s .slb s.regs.frOut.toNat o)

/-- reg[IDAT_COUNT] + 1 (R170). DESIGN CHOICE: the sum is exact (00_scope.md R8) and the register has 32 bits
(10_state.md R49), and no rule says what it holds after 2^32 chunks of one run, so that value is free (log entry 13). -/
def nextIdatCount (s : State) : Word :=
  if s.regs.idatCount = 0xFFFFFFFF#32 then Config.idatCountBeyond s.inflater.drawn else s.regs.idatCount + 1#32

/-- Feed one payload to the inflater and buffer its output (R170, after readBody). The output is written
before the consumed count is checked. -/
def feedInflater (p : List Byte) (s : State) : Result Unit :=
  let a := inflateAnswer s p (idatRoom s.regs)
  (require (a.status != .error) .compressionError (inflateCalled a.status s)).andThen fun _ s =>
  (require (a.consumed == p.length) .compressionError (bufferOutput a.output s)).andThen fun _ s =>
    .ok () (setIdatCount (nextIdatCount s) s)

/-- IDAT_RUN, part 2 (R170): one IDAT chunk. -/
def idatChunk (s : State) : Result Unit :=
  (readBody idatTag s).andThen feedInflater

/-- IDAT_RUN, part 4 (R172): the end check. -/
def idatEnd (s : State) : Result Unit :=
  (require (s.frZst == .complete && s.regs.frOut == s.regs.slbSize) .compressionError s).andThen fun _ s =>
    .ok () (finishRun s)

/-- IDAT_RUN, part 3 (R171): read the next header; another IDAT chunk leaves the run in progress, any other
type ends it. -/
def idatNext (s : State) : Result Unit :=
  (readHeader s).andThen fun _ s =>
    if s.regs.chunkType = idatTag then .ok () s else idatEnd s

/-- The state after a piece of a run (R173): an error raised in the run is entered and leaves FR_STATE FAILED
and no run in progress. -/
def settleRun (r : Result Unit) : State :=
  match r with
  | .ok _ s => s
  | .raised e s => failRun e s
  | .blocked h s => { s with hung := some h }

/-- One turn of the run's loop: one chunk (R170), the next header (R171) and, when that is no IDAT header,
the end check (R172). -/
def idatTurn (s : State) : State :=
  settleRun ((idatChunk s).andThen fun _ s => idatNext s)

/-- IDAT_RUN's first step: the preconditions and the start (R169), then the first turn. An error of the
preconditions is entered as every command's is, with FR_STATE unchanged (R173, 60_exceptions.md R275). -/
def idatRun (s : State) : State :=
  match idatStart s with
  | .ok _ s => idatTurn s
  | .raised e s => errorEntry 0x24#8 e s
  | .blocked h s => { s with hung := some h }

/-- IDAT_RUN: decompress a run of IDAT chunks into SLB (42_framer.md R169 to R173), ignored while
STATUS.ERR = 1. One step is one chunk; while further IDAT chunks follow, the run stays in progress and each
later step of the block is one turn more (R171, 70_reset_and_hazards.md R313). -/
def execIdatRun (s : State) : Host.Outcome State Fault Refusal :=
  .next (if s.regs.status.err then s else idatRun s)

/-- IDAT_EMIT's pseudocode (42_framer.md R174). -/
def idatEmit (s : State) : Result Unit :=
  (require s.regs.status.cfg .sequenceError s).andThen fun _ s =>
    let a := deflateAnswer s (memRead s .slb 0 s.regs.slbSize.toNat) s.params.zoutCap
    (require a.ok .compressionError (deflateCalled s)).andThen fun _ s =>
      emitChunk idatTag a.output (setChunk (BitVec.ofNat 32 a.output.length) idatTag s)

/-- IDAT_EMIT: compress SLB and write it as one IDAT chunk (42_framer.md R174). -/
def execIdatEmit (s : State) : Host.Outcome State Fault Refusal :=
  runCommand 0x25#8 idatEmit s

end Sys2Proof.Machine
end

