-- ==== Sys2Proof/Machine/Dispatch.lean ====
section
/-! DEFINITION. The dispatch from a command to its meaning (30_encoding.md R92, R104). -/

namespace Sys2Proof.Machine

def exec (i : Instr) (s : State) : Host.Outcome State Fault Refusal :=
  match i with
  | .nop => Sys2Proof.Machine.execNop s
  | .reset _ => Sys2Proof.Machine.execReset s
  | .configure => Sys2Proof.Machine.execConfigure s
  | .crcInit => Sys2Proof.Machine.execCrcInit s
  | .crcType => Sys2Proof.Machine.execCrcType s
  | .crcCsb => Sys2Proof.Machine.execCrcCsb s
  | .crcCheck => Sys2Proof.Machine.execCrcCheck s
  | .chunkHdr => Sys2Proof.Machine.execChunkHdr s
  | .chunkRead => Sys2Proof.Machine.execChunkRead s
  | .chunkSkip => Sys2Proof.Machine.execChunkSkip s
  | .chunkEmit => Sys2Proof.Machine.execChunkEmit s
  | .idatRun => Sys2Proof.Machine.execIdatRun s
  | .idatEmit => Sys2Proof.Machine.execIdatEmit s
  | .unfilterRow => Sys2Proof.Machine.execUnfilterRow s
  | .unfilterAll => Sys2Proof.Machine.execUnfilterAll s
  | .filterRow ft => Sys2Proof.Machine.execFilterRow ft s
  | .filterAll ft => Sys2Proof.Machine.execFilterAll ft s
  | .unpackRow => Sys2Proof.Machine.execUnpackRow s
  | .unpackAll => Sys2Proof.Machine.execUnpackAll s
  | .packRow => Sys2Proof.Machine.execPackRow s
  | .packAll => Sys2Proof.Machine.execPackAll s

end Sys2Proof.Machine
end

