-- ==== Sys2Proof/Machine/HostPort.lean ====
section
/-! DEFINITION. The host's side of the block: register and buffer accesses (20_memory.md R65 to R68), issuing a
command (30_encoding.md R104), power-on (70_reset_and_hazards.md R300), the forms of R102 and R103, and what one
step of the block is. -/

namespace Sys2Proof.Machine

/-- A host write of w to CMD (30_encoding.md R104): a word that decodes runs its command; any other is ignored
while STATUS.ERR = 1 and else raises IllegalCommand (R95), with the word's own OP in ERROP (60_exceptions.md R275). -/
def issueCommand (w : Word) (s : State) : Host.Outcome State Fault Refusal :=
  match decode w with
  | .ok i => exec i s
  | .error _ => runCommand (opField w) (Result.raised .illegalCommand) s

/-- HostRegRead (20_memory.md R66): the register's value, 0 at a reserved offset (10_state.md R51); no side effect. -/
def hostRegRead (off : Nat) (s : State) : State :=
  { s with reply := some ((regAt off).elim 0#32 (regRead s.regs)) }

/-- HostRegWrite (20_memory.md R66): CMD issues a command (10_state.md R50), another register is written, a
reserved offset ignores the write (R51). -/
def hostRegWrite (off : Nat) (v : Word) (s : State) : Host.Outcome State Fault Refusal :=
  match regAt off with
  | none => .next s
  | some .cmd => issueCommand v s
  | some r => .next { s with regs := regWrite s.regs r v }

/-- HostBufRead (20_memory.md R67): the byte, in the low byte of the reply. -/
def hostBufRead (sp : Space) (off : Nat) (s : State) : State :=
  { s with reply := some ((readByte s sp off).setWidth 32) }

/-- HostBufWrite (20_memory.md R67): the low byte of the data; no side effect on any register. -/
def hostBufWrite (sp : Space) (off : Nat) (v : Word) (s : State) : State :=
  memWrite s sp off [v.setWidth 8]

/-- A host read, or the refusal of R68. -/
def hostRead (addr : Word) (width : Width) (s : State) : Host.Outcome State Fault Refusal :=
  match resolve s.params addr width with
  | .error r => .refused r
  | .ok (.register off) => .next (hostRegRead off s)
  | .ok (.buffer sp off) => .next (hostBufRead sp off s)

/-- A host write, or the refusal of R68. -/
def hostWrite (addr : Word) (width : Width) (data : Word) (s : State) : Host.Outcome State Fault Refusal :=
  match resolve s.params addr width with
  | .error r => .refused r
  | .ok (.register off) => hostRegWrite off data s
  | .ok (.buffer sp off) => .next (hostBufWrite sp off data s)

/-- The fault of a block that waits for a stream that never answers (70_reset_and_hazards.md R313). -/
def hangFault : Hang → Fault
  | .source => .sourceNeverAnswers
  | .sink => .sinkNeverAnswers

/-- The next step of a block to which no power-on comes: it is stuck (R313), or an IDAT run goes on with one
more chunk (42_framer.md R171), or the host's next access takes effect (20_memory.md R75), or nothing
happens (70_reset_and_hazards.md R303). -/
def proceed (s : State) : Host.Outcome State Fault Refusal :=
  match s.hung with
  | some h => .fault (hangFault h)
  | none =>
    if s.running then .next (idatTurn s)
    else
      match s.host with
      | [] => .next s
      | .read addr width :: rest => hostRead addr width { s with host := rest }
      | .write addr width data :: rest => hostWrite addr width data { s with host := rest }
      | .powerOn :: rest => .next (powerOnReset { s with host := rest })

/-- One step of the block. Power-on reset takes effect as soon as it is the oldest event, whatever the block is
doing (R300: an external input of the block). -/
def advance (s : State) : Host.Outcome State Fault Refusal :=
  match s.host with
  | .powerOn :: rest => .next (powerOnReset { s with host := rest })
  | _ => proceed s

/-- The host address of CMD (10_state.md R50, 20_memory.md R65). -/
def cmdAddress : Word := 0x68#32

/-- The host writes the command word w to CMD next, and the block is ready to take it. -/
def queueCommandWord (s : State) (w : Word) : State :=
  { s with host := .write cmdAddress .word w :: s.host, running := false, hung := none }

/-! ## The forms of host programs (30_encoding.md R102, R103) -/

/-- The host address of a register (10_state.md R22, 20_memory.md R65). -/
def regAddress : Reg → Word
  | .status => 0x00#32
  | .width => 0x04#32
  | .height => 0x08#32
  | .bitDepth => 0x0C#32
  | .colorType => 0x10#32
  | .compression => 0x14#32
  | .filterMethod => 0x18#32
  | .interlace => 0x1C#32
  | .channels => 0x20#32
  | .stride => 0x24#32
  | .pitch => 0x28#32
  | .slbSize => 0x2C#32
  | .pixSize => 0x30#32
  | .ufRow => 0x34#32
  | .upRow => 0x38#32
  | .pkRow => 0x3C#32
  | .feLeft => 0x40#32
  | .crcAcc => 0x44#32
  | .crcResult => 0x48#32
  | .crcExpect => 0x4C#32
  | .chunkLen => 0x50#32
  | .chunkType => 0x54#32
  | .frOut => 0x58#32
  | .inPos => 0x5C#32
  | .outPos => 0x60#32
  | .idatCount => 0x64#32
  | .cmd => 0x68#32

/-- The base address of a buffer's window (20_memory.md R65). -/
def spaceBase : Space → Word
  | .slb => 0x10000000#32
  | .pix => 0x20000000#32
  | .csb => 0x30000000#32

/-- WR REG, value. -/
def eventWR (r : Reg) (v : Word) : HostEvent := .write (regAddress r) .word v

/-- RD REG. -/
def eventRD (r : Reg) : HostEvent := .read (regAddress r) .word

/-- WRB SPACE[off], byte. -/
def eventWRB (sp : Space) (off : Word) (b : Byte) : HostEvent := .write (spaceBase sp + off) .byte (b.setWidth 32)

/-- RDB SPACE[off]. -/
def eventRDB (sp : Space) (off : Word) : HostEvent := .read (spaceBase sp + off) .byte

/-- CMD mnemonic, the pseudo-instruction: a write of the command word (R103). -/
def eventCMD (i : Instr) : HostEvent := eventWR .cmd (encode i)

end Sys2Proof.Machine
end

