-- ==== Sys2Proof/Machine/Step.lean ====
section
/-! DEFINITION. One step of the machine, and the command word placed where the next step takes it. -/

namespace Sys2Proof.Machine

/-- One step: `advance`, which says what the block does next. -/
def step (s : State) : Host.Outcome State Fault Refusal := advance s

/-- The block fetches nothing (20_memory.md R77): its next command is the word the host writes to CMD next. The
word w, of nbits bits, is placed as the oldest host access, and the block is idle, so that the very next step
runs it (log entry 6). -/
def State.withFetchWord (s : State) (nbits w : Nat) : State :=
  queueCommandWord s (BitVec.ofNat 32 (w % 2 ^ nbits))

end Sys2Proof.Machine
end

