-- ==== Sys2Proof/Safety.lean ====
section
/-! DEFINITION. The terms claims use: which states a run of the block can be in (`State.Inv`), what a safe run
is, sequences of commands, what a stream delivers, and the named properties of the compression service
(42_framer.md R163). -/

namespace Sys2Proof.Machine

/-! ## Commands in a row -/

/-- Run commands one after another, stopping at the first that answers no next state. -/
def execAll : List Instr → State → Host.Outcome State Fault Refusal
  | [], s => .next s
  | i :: is, s =>
    match exec i s with
    | .next t => execAll is t
    | .fault r => .fault r
    | .refused r => .refused r

/-- The block is ready for the host's next access: not blocked and between commands. -/
structure State.Idle (s : State) : Prop where
  notHung : s.hung = none
  notRunning : s.running = false

/-- A step from this state is no fault: the block is not blocked, or power-on is the next event. -/
def State.Safe (s : State) : Prop := s.hung = none ∨ s.host.head? = some .powerOn

/-! ## What claims say of a state and its successor -/

/-- Every byte of every buffer reads in t as in s. -/
def SameBytes (s t : State) : Prop := ∀ sp a, readByte t sp a = readByte s sp a

/-- Every byte outside the n bytes at offset a of buffer sp reads in t as in s. -/
def OnlyBytes (s t : State) (sp : Space) (a n : Nat) : Prop :=
  ∀ sp' a', ¬ (sp' = sp ∧ a ≤ a' ∧ a' < a + n) → readByte t sp' a' = readByte s sp' a'

/-- The state after an error with the given code, of a command with the given opcode: STATUS alone differs, in
ERR, ERRCODE and ERROP (60_exceptions.md R275). -/
def errorState (op code : Byte) (s : State) : State :=
  { s with regs := { s.regs with status := { s.regs.status with err := true, errCode := code, errOp := op } } }

/-- Every register reads its reset value (10_state.md R22), FR_ZST is `more` and no session is open (R52). -/
structure AtReset (t : State) : Prop where
  registers : ∀ r, regRead t.regs r = if r = .crcAcc then 0xFFFFFFFF#32 else 0#32
  status    : t.regs.status = ⟨false, false, .idle, 0#8, 0#8⟩
  frZst     : t.frZst = .more
  session   : t.session = none

/-- The command words of 30_encoding.md R93 to R95 that are no command: a reserved OP, or an ARG or RSV that is
illegal for the OP. OP is bits [31:24], ARG [23:16], RSV [15:0] (R91). -/
def IllegalWord (w : Word) : Prop :=
  let op := w.toNat / 2 ^ 24
  let arg := w.toNat / 2 ^ 16 % 256
  let rsv := w.toNat % 2 ^ 16
  op ≠ 0x01 ∧
    (op ∉ [0x00, 0x02, 0x10, 0x11, 0x12, 0x13, 0x20, 0x21, 0x22, 0x23, 0x24, 0x25, 0x30, 0x31, 0x32, 0x33,
        0x40, 0x41, 0x42, 0x43]
      ∨ ((op = 0x32 ∨ op = 0x33) ∧ 5 ≤ arg) ∨ (op ≠ 0x32 ∧ op ≠ 0x33 ∧ arg ≠ 0) ∨ rsv ≠ 0)

/-- A descriptor CONFIGURE calls corrupt (40_control.md R124). -/
def CorruptDescriptor (r : Regs) : Prop :=
  let ct := r.colorType.toNat
  let d := r.bitDepth.toNat
  ct ∉ [0, 2, 3, 4, 6] ∨ d ∉ [1, 2, 4, 8, 16] ∨ (ct = 3 ∧ 8 < d) ∨ (ct ∈ [2, 4, 6] ∧ d < 8) ∨
    r.compression ≠ 0#8 ∨ r.filterMethod ≠ 0#8 ∨ 1 < r.interlace.toNat ∨ r.width = 0#32 ∨ r.height = 0#32

/-- A descriptor with a feature CONFIGURE does not support (40_control.md R124). -/
def UnsupportedDescriptor (r : Regs) : Prop := r.bitDepth = 16#8 ∨ r.interlace = 1#8

/-! ## What the streams deliver -/

/-- The source answers a read of n bytes with p and is left as `src'` (20_memory.md R70). -/
def Delivers (src : Source) (n : Nat) (p : List Byte) (src' : Source) : Prop :=
  if n = 0 then p = [] ∧ src' = src else sourceAnswer src n = some p ∧ src' = sourceNext src n

/-- The source never answers a read of n bytes (70_reset_and_hazards.md R313). -/
def SilentOn (src : Source) (n : Nat) : Prop := n ≠ 0 ∧ sourceAnswer src n = none

/-! ## The invariant -/

/-- Every byte written to a buffer lies below its capacity (20_memory.md R61). -/
def Within (m : Memory) (cap : Nat) : Prop := ∀ c ∈ m, c.1 < cap

/-- The registers hold a configuration CONFIGURE accepted (40_control.md R122 to R127), with the bounds of
10_state.md R37 to R40 and R46. -/
structure Configured (r : Regs) (p : Params) : Prop where
  accepted : configureError r = none
  channels : r.channels.toNat = geomChannels r
  stride   : r.stride.toNat = geomStride r
  pitch    : r.pitch.toNat = geomPitch r
  slbSize  : r.slbSize.toNat = geomSlb r
  pixSize  : r.pixSize.toNat = geomPix r
  slbFits  : geomSlb r ≤ p.slbCap
  pixFits  : geomPix r ≤ p.pixCap
  ufRow    : r.ufRow.toNat ≤ r.height.toNat
  upRow    : r.upRow.toNat ≤ r.height.toNat
  pkRow    : r.pkRow.toNat ≤ r.height.toNat
  feLeft   : r.feLeft.toNat ≤ r.height.toNat
  frOut    : r.frOut.toNat ≤ r.slbSize.toNat

/-- The derived geometry is zero (10_state.md R31 to R36). -/
structure Underived (r : Regs) : Prop where
  channels : r.channels = 0#3
  stride   : r.stride = 0#3
  pitch    : r.pitch = 0#32
  slbSize  : r.slbSize = 0#32
  pixSize  : r.pixSize = 0#32

/-- The codes of the errors the block raises (60_exceptions.md R271). -/
def raisedCodes : List Byte :=
  [0x01#8, 0x03#8, 0x04#8, 0x05#8, 0x06#8, 0x07#8, 0x08#8, 0x10#8, 0x11#8, 0x12#8]

/-- The codes of the errors a command's own checks raise (60_exceptions.md R272). -/
def errorsOf : Instr → List Byte
  | .nop => []
  | .reset _ => []
  | .configure => [0x03#8, 0x07#8, 0x08#8]
  | .crcInit => []
  | .crcType => []
  | .crcCsb => [0x08#8]
  | .crcCheck => [0x04#8]
  | .chunkHdr => [0x01#8]
  | .chunkRead => [0x08#8, 0x01#8, 0x04#8]
  | .chunkSkip => [0x01#8]
  | .chunkEmit => [0x08#8, 0x01#8]
  | .idatRun => [0x10#8, 0x03#8, 0x08#8, 0x01#8, 0x04#8, 0x05#8]
  | .idatEmit => [0x10#8, 0x05#8, 0x01#8]
  | .unfilterRow => [0x10#8, 0x06#8]
  | .unfilterAll => [0x10#8, 0x06#8]
  | .filterRow _ => [0x10#8]
  | .filterAll _ => [0x10#8]
  | .unpackRow => [0x10#8]
  | .unpackAll => [0x10#8]
  | .packRow => [0x10#8, 0x12#8]
  | .packAll => [0x10#8, 0x12#8]

/-- The states a run can be in. -/
structure State.Inv (s : State) : Prop where
  legal        : s.params.Legal
  slbWf        : s.slb.wf
  pixWf        : s.pix.wf
  csbWf        : s.csb.wf
  slbWithin    : Within s.slb s.params.slbCap
  pixWithin    : Within s.pix s.params.pixCap
  csbWithin    : Within s.csb s.params.csbCap
  configured   : s.regs.status.cfg = true → Configured s.regs s.params
  underived    : s.regs.status.cfg = false → Underived s.regs
  noError      : s.regs.status.err = false → s.regs.status.errCode = 0#8 ∧ s.regs.status.errOp = 0#8
  error        : s.regs.status.err = true → s.regs.status.errCode ∈ raisedCodes
  failed       : s.regs.status.frState = .failed → s.regs.status.err = true
  framed       : s.regs.status.cfg = true → s.regs.status.frState = .done →
                   s.frZst = .complete ∧ s.regs.frOut = s.regs.slbSize
  noSession    : s.session = none → s.frZst = .more
  runCfg       : s.running = true → s.regs.status.cfg = true
  runErr       : s.running = true → s.regs.status.err = false
  runIdle      : s.running = true → s.regs.status.frState = .idle
  runSession   : s.running = true → s.session ≠ none
  runTag       : s.running = true → s.regs.chunkType = idatTag

/-! ## Named properties of the compression service (42_framer.md R163)

The block's rules never assume them; a claim about a whole decode may take one as a premise, by name. A
service's behaviour is the set of the call sequences one fresh session of it can show. -/

/-- One call of a session: what was fed, the room offered, the answer. -/
structure InflateCall where
  input  : List Byte
  room   : Nat
  answer : InflateAnswer
deriving DecidableEq, Repr

/-- A call keeps the contract's bounds (R160). -/
def InflateCall.Bounded (c : InflateCall) : Prop :=
  c.answer.consumed ≤ c.input.length ∧ c.answer.output.length ≤ c.room

/-- The call consumed its whole input. -/
def InflateCall.Consumed (c : InflateCall) : Prop := c.answer.consumed = c.input.length

/-- The status of the last call of a session, if there was one. -/
def lastStatus (h : List InflateCall) : Option InflateStatus := h.getLast?.map (·.answer.status)

/-- Room never ran out in a session (R163). A call left room unused; or it filled its room with the end of the
output: no later call produced a byte and the session ended `complete`, so nothing was withheld for want of room. The
call that fills SLB exactly, as a run that passes the end check R172 has, is of the second kind. DEDUCED, log entry 14. -/
def RoomSufficed : List InflateCall → Prop
  | [] => True
  | c :: h =>
    (c.answer.output.length < c.room ∨
      ((∀ d ∈ h, d.answer.output = []) ∧ lastStatus (c :: h) = some .complete)) ∧ RoomSufficed h

/-- INFLATE_SPLIT (R163): outputs and last status depend only on the concatenation of the inputs, for sessions that
consume every input whole and in which room never runs out. -/
def InflateSplit (session : List InflateCall → Prop) : Prop :=
  ∀ h h', session h → session h' → (∀ c ∈ h, c.Consumed) → (∀ c ∈ h', c.Consumed) →
    RoomSufficed h → RoomSufficed h' → h ≠ [] → h' ≠ [] → h.flatMap (·.input) = h'.flatMap (·.input) →
    h.flatMap (·.answer.output) = h'.flatMap (·.answer.output) ∧ lastStatus h = lastStatus h'

/-- The rooms an IDAT run offers (R170): SLB_SIZE − FR_OUT, shrinking by what each call produced. -/
def RunRooms : Nat → List InflateCall → Prop
  | _, [] => True
  | room, c :: h => c.room = room ∧ c.Bounded ∧ RunRooms (room - c.answer.output.length) h

/-- INFLATE_AFTER_END (R163): after `complete`, every later call consumes and produces nothing. -/
def InflateAfterEnd (session : List InflateCall → Prop) : Prop :=
  ∀ h c h' d, session (h ++ c :: h' ++ [d]) → c.answer.status = .complete →
    d.answer = ⟨0, [], .complete⟩

/-- ROUNDTRIP (R163): what the deflater produced of s, fed in any split with room enough, gives s back and
`complete` on the call that consumes the last byte. DESIGN CHOICE, log entry 15: the rule does not say whether "any
split" includes one that ends in empty parts, or a split of an empty z; the property asks the last part to be non-empty,
and so says nothing of those. Empty parts before the last are included. -/
def RoundTrip (session : List InflateCall → Prop) (deflate : List Byte → Nat → DeflateAnswer → Prop) : Prop :=
  ∀ s cap z, deflate s cap ⟨z, true⟩ →
    ∀ h c, session (h ++ [c]) → c.input ≠ [] → (h ++ [c]).flatMap (·.input) = z →
      (∀ h₁ d h₂, h ++ [c] = h₁ ++ d :: h₂ → s.length - (h₁.flatMap (·.answer.output)).length ≤ d.room) →
      (∀ d ∈ h ++ [c], d.answer.consumed = d.input.length) ∧
      (h ++ [c]).flatMap (·.answer.output) = s ∧ c.answer.status = .complete

end Sys2Proof.Machine
end

