-- ==== Sys2Proof/Certificates/Slice0/Obligations.lean ====
section
/-! DEFINITION. The statements for the provers: what the numbered rules of spec/ say the block does, and the
invariants every step keeps. -/

set_option autoImplicit false

open Sys2Proof Sys2Proof.Machine

/-! ## Encoding (30_encoding.md) -/

/-- R91, R92, R96: no bit of an encoding is dropped. -/
def Obligations.DecodeUndoesEncode : Prop :=
  ∀ i : Instr, i.WellFormed → decode (encode i) = .ok i

/-- R91, R92, R96: a word has one meaning, and a word that decodes is the encoding of its command. -/
def Obligations.EncodeUndoesDecode : Prop :=
  ∀ (w : Word) (i : Instr), decode w = .ok i → i.WellFormed ∧ encode i = w

/-- R92: the opcode map, one word for each command, as the rule writes OP, ARG and RSV. -/
def Obligations.OpcodeMapWords : Prop :=
  decode 0x00000000#32 = .ok .nop ∧ decode 0x01000000#32 = .ok (.reset 0#24) ∧ decode 0x02000000#32 = .ok .configure ∧
  decode 0x10000000#32 = .ok .crcInit ∧ decode 0x11000000#32 = .ok .crcType ∧ decode 0x12000000#32 = .ok .crcCsb ∧
  decode 0x13000000#32 = .ok .crcCheck ∧ decode 0x20000000#32 = .ok .chunkHdr ∧
  decode 0x21000000#32 = .ok .chunkRead ∧ decode 0x22000000#32 = .ok .chunkSkip ∧
  decode 0x23000000#32 = .ok .chunkEmit ∧ decode 0x24000000#32 = .ok .idatRun ∧
  decode 0x25000000#32 = .ok .idatEmit ∧ decode 0x30000000#32 = .ok .unfilterRow ∧
  decode 0x31000000#32 = .ok .unfilterAll ∧ decode 0x32010000#32 = .ok (.filterRow 1#8) ∧
  decode 0x33040000#32 = .ok (.filterAll 4#8) ∧ decode 0x40000000#32 = .ok .unpackRow ∧
  decode 0x41000000#32 = .ok .unpackAll ∧ decode 0x42000000#32 = .ok .packRow ∧ decode 0x43000000#32 = .ok .packAll

/-- R93 to R96, read over all 2^32 words: a word is refused exactly when its OP is reserved or its ARG or RSV is
illegal for its OP; every word with OP = 0x01 is RESET. -/
def Obligations.IllegalWordsAreRefused : Prop :=
  (∀ w : Word, (∃ e, decode w = .error e) ↔ IllegalWord w) ∧
  (∀ w : Word, w.toNat / 2 ^ 24 = 0x01 → decode w = .ok (.reset (w.extractLsb' 0 24)))

/-- R95: a host write to CMD of a word that is no command raises IllegalCommand, with the word's own OP in ERROP, and
has no other effect; it is ignored while STATUS.ERR = 1. -/
def Obligations.IllegalWordRaisesIllegalCommand : Prop :=
  ∀ (s : State) (w : Word), IllegalWord w →
    hostWrite cmdAddress .word w s =
      .next (if s.regs.status.err = true then s else errorState (w.extractLsb' 24 8) 0x11#8 s)

/-- R50, R104, R75: one step of an idle block whose oldest host access writes a command word to CMD is that command;
any other access is the host's read or write; with no access outstanding the block waits and nothing changes (R303).
The list of outstanding accesses, and that a step takes the oldest, are the model's (log entry 1). -/
def Obligations.StepRunsTheWrittenCommand : Prop :=
  ∀ s : State, s.Idle →
    (∀ (w : Word) (i : Instr) (rest : List HostEvent), s.host = .write cmdAddress .word w :: rest → decode w = .ok i →
      step s = exec i { s with host := rest }) ∧
    (∀ (a : Word) (width : Width) (rest : List HostEvent), s.host = .read a width :: rest →
      step s = hostRead a width { s with host := rest }) ∧
    (∀ (a v : Word) (width : Width) (rest : List HostEvent), s.host = .write a width v :: rest →
      step s = hostWrite a width v { s with host := rest }) ∧
    (s.host = [] → step s = .next s)

/-! ## Reset (70_reset_and_hazards.md) -/

/-- R300: the RESET command, power-on reset and the first state have every register at its reset value, FR_ZST `more`
and no session; RESET runs whatever STATUS holds. -/
def Obligations.BothResetsGiveResetValues : Prop :=
  (∀ (s : State) (b : BitVec 24), ∃ t, exec (.reset b) s = .next t ∧ AtReset t) ∧
  (∀ s : State, AtReset (powerOnReset s)) ∧
  AtReset State.reset

/-- R301, R302: RESET changes no buffer byte and nothing at SOURCE or SINK; power-on leaves every buffer byte a
free draw (the free byte is the model's, log entry 2). -/
def Obligations.ResetKeepsBuffersPowerOnDrawsThem : Prop :=
  (∀ (s : State) (b : BitVec 24), ∃ t, exec (.reset b) s = .next t ∧ SameBytes s t ∧ t.source = s.source ∧
    t.sink = s.sink ∧ t.out = s.out) ∧
  (∀ (s : State) (sp : Space) (a : Nat),
    readByte (powerOnReset s) sp a = Config.powerOnByte (s.powerCycles + 1) sp a)

/-! ## Control and errors (40_control.md, 60_exceptions.md) -/

/-- R120: NOP leaves every register and buffer unchanged. -/
def Obligations.NopChangesNothing : Prop :=
  encode .nop = 0x00000000#32 ∧ ∀ s : State, exec .nop s = .next s

/-- R273: while STATUS.ERR = 1 every command but RESET, and every word that is no command, is ignored; host
register and buffer accesses still work. The field a read answers in is the model's (log entry 1), and so is the byte's
place in the data: a byte write stores the low byte, a byte read answers the byte with zeros above (log entry 12). -/
def Obligations.StickyErrorIgnoresCommands : Prop :=
  ∀ s : State, s.regs.status.err = true →
    (∀ i : Instr, (∀ b, i ≠ .reset b) → exec i s = .next s) ∧
    (∀ w : Word, IllegalWord w → issueCommand w s = .next s) ∧
    (∀ (r : Reg) (v : Word), r ≠ .cmd →
      hostWrite (regAddress r) .word v s = .next { s with regs := regWrite s.regs r v }) ∧
    (∀ r : Reg, hostRead (regAddress r) .word s = .next { s with reply := some (regRead s.regs r) }) ∧
    (∀ (sp : Space) (off v : Word), off.toNat < s.params.cap sp → s.params.Legal →
      hostWrite (spaceBase sp + off) .byte v s = .next (memWrite s sp off.toNat [v.setWidth 8]) ∧
      hostRead (spaceBase sp + off) .byte s = .next { s with reply := some ((readByte s sp off.toNat).setWidth 32) })

/-- R272, R23, R275: with no error pending, a command raises only the errors its rule names, with its own opcode in
ERROP; but for RESET, CONFIGURE and IDAT_RUN, a command changes STATUS by error entry alone. A FILTER command whose
filter type no word decodes to raises IllegalCommand, the model's choice (log entry 12). -/
def Obligations.CommandsRaiseOnlyTheirErrors : Prop :=
  (∀ (ft : Byte) (s : State), 4 < ft.toNat → s.regs.status.err = false →
    exec (.filterRow ft) s = .next (errorState 0x32#8 0x11#8 s) ∧
    exec (.filterAll ft) s = .next (errorState 0x33#8 0x11#8 s)) ∧
  ∀ (i : Instr) (s t : State), i.WellFormed → s.regs.status.err = false → exec i s = .next t →
    (t.regs.status.err = true → t.regs.status.errCode ∈ errorsOf i ∧ t.regs.status.errOp = i.opcode) ∧
    ((∀ b, i ≠ .reset b) → i ≠ .configure → i ≠ .idatRun →
      t.regs.status = s.regs.status ∨
      ∃ code ∈ errorsOf i,
        t.regs.status = { s.regs.status with err := true, errCode := code, errOp := i.opcode })

/-- R124, R126: which error CONFIGURE raises: CorruptedError for any corrupt descriptor, else NotSupportedError for
an unsupported one, else MemoryError for buffers too large; the error changes STATUS alone. -/
def Obligations.ConfigureRejects : Prop :=
  ∀ s : State, s.regs.status.err = false →
    (CorruptDescriptor s.regs → exec .configure s = .next (errorState 0x02#8 0x03#8 s)) ∧
    (¬ CorruptDescriptor s.regs → UnsupportedDescriptor s.regs →
      exec .configure s = .next (errorState 0x02#8 0x07#8 s)) ∧
    (¬ CorruptDescriptor s.regs → ¬ UnsupportedDescriptor s.regs →
      (s.params.slbCap < geomSlb s.regs ∨ s.params.pixCap < geomPix s.regs) →
      exec .configure s = .next (errorState 0x02#8 0x08#8 s))

/-- R123, R125, R127: an accepted CONFIGURE derives the geometry exactly, restarts every unit and changes nothing
else. N is the channel count of the colour type. -/
def Obligations.ConfigureDerivesAndCommits : Prop :=
  ∀ s : State, s.regs.status.err = false → s.params.Legal → ¬ CorruptDescriptor s.regs →
    ¬ UnsupportedDescriptor s.regs → geomSlb s.regs ≤ s.params.slbCap → geomPix s.regs ≤ s.params.pixCap →
    ∃ t, exec .configure s = .next t ∧
      (let ct := s.regs.colorType.toNat
       let n := if ct = 2 then 3 else if ct = 4 then 2 else if ct = 6 then 4 else 1
       let d := s.regs.bitDepth.toNat
       let w := s.regs.width.toNat
       let h := s.regs.height.toNat
       t.regs.channels.toNat = n ∧ t.regs.stride.toNat = (d * n + 7) / 8 ∧
       t.regs.pitch.toNat = (w * d * n + 7) / 8 ∧ t.regs.slbSize.toNat = h * (t.regs.pitch.toNat + 1) ∧
       t.regs.pixSize.toNat = w * h * n) ∧
      t = { s with
        regs := { s.regs with
          channels := t.regs.channels, stride := t.regs.stride, pitch := t.regs.pitch
          slbSize := t.regs.slbSize, pixSize := t.regs.pixSize
          ufRow := 0#32, upRow := 0#32, pkRow := 0#32, feLeft := s.regs.height
          frOut := 0#32, idatCount := 0#32
          status := { s.regs.status with frState := .idle, cfg := true } }
        frZst := .more
        session := none }

/-- R31 to R36: no command but RESET and CONFIGURE changes the geometry registers, the derived geometry or
STATUS.CFG. -/
def Obligations.OnlyResetAndConfigureChangeGeometry : Prop :=
  ∀ (i : Instr) (s t : State), (∀ b, i ≠ .reset b) → i ≠ .configure → exec i s = .next t →
    t.regs.width = s.regs.width ∧ t.regs.height = s.regs.height ∧ t.regs.bitDepth = s.regs.bitDepth ∧
    t.regs.colorType = s.regs.colorType ∧ t.regs.compression = s.regs.compression ∧
    t.regs.filterMethod = s.regs.filterMethod ∧ t.regs.interlace = s.regs.interlace ∧
    t.regs.channels = s.regs.channels ∧ t.regs.stride = s.regs.stride ∧ t.regs.pitch = s.regs.pitch ∧
    t.regs.slbSize = s.regs.slbSize ∧ t.regs.pixSize = s.regs.pixSize ∧ t.regs.status.cfg = s.regs.status.cfg

/-! ## CRC (41_crc.md) -/

/-- R142, R143: CRC_INIT loads CRC_ACC with 0xFFFFFFFF; CRC_TYPE folds the tag bytes into it in stream order,
T[31:24] first. Neither changes anything else. -/
def Obligations.CrcInitAndTypeUpdateTheAccumulator : Prop :=
  encode .crcInit = 0x10000000#32 ∧ encode .crcType = 0x11000000#32 ∧ ∀ s : State, s.regs.status.err = false →
    exec .crcInit s = .next { s with regs := { s.regs with crcAcc := 0xFFFFFFFF#32 } } ∧
    exec .crcType s = .next { s with regs := { s.regs with
      crcAcc := crcStep (crcStep (crcStep (crcStep s.regs.crcAcc (s.regs.chunkType.extractLsb' 24 8))
        (s.regs.chunkType.extractLsb' 16 8)) (s.regs.chunkType.extractLsb' 8 8)) (s.regs.chunkType.extractLsb' 0 8) } }

/-- R144. -/
def Obligations.CrcCsbFoldsThePayload : Prop :=
  encode .crcCsb = 0x12000000#32 ∧ ∀ s : State, s.regs.status.err = false →
    (s.regs.chunkLen.toNat ≤ s.params.csbCap →
      exec .crcCsb s = .next { s with regs := { s.regs with
        crcAcc := crcFold s.regs.crcAcc (memRead s .csb 0 s.regs.chunkLen.toNat) } }) ∧
    (s.params.csbCap < s.regs.chunkLen.toNat → exec .crcCsb s = .next (errorState 0x12#8 0x08#8 s))

/-- R145, with CRC_RESULT as R42 gives it. -/
def Obligations.CrcCheckCompares : Prop :=
  encode .crcCheck = 0x13000000#32 ∧ ∀ s : State, s.regs.status.err = false →
    (s.regs.crcAcc ^^^ 0xFFFFFFFF#32 = s.regs.crcExpect → exec .crcCheck s = .next s) ∧
    (s.regs.crcAcc ^^^ 0xFFFFFFFF#32 ≠ s.regs.crcExpect → exec .crcCheck s = .next (errorState 0x13#8 0x04#8 s))

/-- R141: the CRC of a chunk and the two check values the rule gives. -/
def Obligations.CrcOfAChunk : Prop :=
  (∀ (c : Word) (v : Byte) (p : List Byte), crcFold c [] = c ∧ crcFold c (v :: p) = crcFold (crcStep c v) p) ∧
  (∀ (t : Word) (p : List Byte), chunkCrcAcc t p = crcFold 0xFFFFFFFF#32 (be32 t ++ p) ∧
    chunkCrc t p = chunkCrcAcc t p ^^^ 0xFFFFFFFF#32) ∧
  chunkCrc 0x49454E44#32 [] = 0xAE426082#32 ∧
  crcFold 0xFFFFFFFF#32 [0x31#8, 0x32#8, 0x33#8, 0x34#8, 0x35#8, 0x36#8, 0x37#8, 0x38#8, 0x39#8] ^^^ 0xFFFFFFFF#32
    = 0xCBF43926#32

/-- R146: flipping any single bit of a chunk's payload or type changes its CRC. -/
def Obligations.CrcDetectsSingleBitFlips : Prop :=
  (∀ (t : Word) (p : List Byte) (j k : Nat), j < p.length → k < 8 →
    chunkCrc t (p.set j (p.getD j 0#8 ^^^ (1#8 <<< k))) ≠ chunkCrc t p) ∧
  (∀ (t : Word) (p : List Byte) (k : Nat), k < 32 → chunkCrc (t ^^^ (1#32 <<< k)) p ≠ chunkCrc t p)

/-- R9, R72: BE32 puts the most significant byte first, unBE32 reads it back, and the two are inverse. -/
def Obligations.BigEndianWords : Prop :=
  (∀ b0 b1 b2 b3 : Byte, (unBe32 [b0, b1, b2, b3]).toNat =
    b0.toNat * 2 ^ 24 + b1.toNat * 2 ^ 16 + b2.toNat * 2 ^ 8 + b3.toNat ∧
    be32 (unBe32 [b0, b1, b2, b3]) = [b0, b1, b2, b3]) ∧
  (∀ v : Word, unBe32 (be32 v) = v)

/-! ## Chunk framer (42_framer.md) -/

/-- R165: CHUNK_HDR latches length and type; a short read latches nothing and raises IoError. IN_POS advances by the
bytes transferred, mod 2^32. -/
def Obligations.ChunkHdrLatchesHeader : Prop :=
  encode .chunkHdr = 0x20000000#32 ∧ ∀ (s : State) (h : List Byte) (src : Source), s.regs.status.err = false →
    Delivers s.source 8 h src →
    (h.length = 8 → exec .chunkHdr s = .next { s with
      source := src
      regs := { s.regs with
        chunkLen := unBe32 (h.take 4), chunkType := unBe32 (h.drop 4), inPos := s.regs.inPos + 8#32 } }) ∧
    (h.length < 8 → exec .chunkHdr s = .next (errorState 0x20#8 0x01#8 { s with
      source := src
      regs := { s.regs with inPos := s.regs.inPos + BitVec.ofNat 32 h.length } }))

/-- R164, R166: CHUNK_READ in its five ends: MemoryError, a short payload kept in CSB, a short CRC, a CRC that
fits, a CRC that does not. -/
def Obligations.ChunkReadReadsAndChecks : Prop :=
  encode .chunkRead = 0x21000000#32 ∧ ∀ s : State, s.regs.status.err = false →
    (s.params.csbCap < s.regs.chunkLen.toNat → exec .chunkRead s = .next (errorState 0x21#8 0x08#8 s)) ∧
    (∀ (p : List Byte) (src : Source), s.regs.chunkLen.toNat ≤ s.params.csbCap →
      Delivers s.source s.regs.chunkLen.toNat p src →
      let kept := memWrite { s with
        source := src
        regs := { s.regs with inPos := s.regs.inPos + BitVec.ofNat 32 p.length } } .csb 0 p
      (p.length < s.regs.chunkLen.toNat → exec .chunkRead s = .next (errorState 0x21#8 0x01#8 kept)) ∧
      (p.length = s.regs.chunkLen.toNat → ∀ (q : List Byte) (src' : Source), Delivers src 4 q src' →
        let checked : State := { kept with
          source := src'
          regs := { kept.regs with inPos := kept.regs.inPos + BitVec.ofNat 32 q.length } }
        let done : State := { checked with
          regs := { checked.regs with crcExpect := unBe32 q, crcAcc := chunkCrcAcc s.regs.chunkType p } }
        (q.length < 4 → exec .chunkRead s = .next (errorState 0x21#8 0x01#8 checked)) ∧
        (q.length = 4 →
          (chunkCrc s.regs.chunkType p = unBe32 q → exec .chunkRead s = .next done) ∧
          (chunkCrc s.regs.chunkType p ≠ unBe32 q → exec .chunkRead s = .next (errorState 0x21#8 0x04#8 done)))))

/-- R167: CHUNK_SKIP discards CHUNK_LEN + 4 bytes, in exact arithmetic, and changes IN_POS alone, which advances by
the bytes transferred, mod 2^32. -/
def Obligations.ChunkSkipDiscards : Prop :=
  encode .chunkSkip = 0x22000000#32 ∧ ∀ (s : State) (d : List Byte) (src : Source), s.regs.status.err = false →
    Delivers s.source (s.regs.chunkLen.toNat + 4) d src →
    let skipped : State := { s with
      source := src
      regs := { s.regs with inPos := s.regs.inPos + BitVec.ofNat 32 d.length } }
    (d.length = s.regs.chunkLen.toNat + 4 → exec .chunkSkip s = .next skipped) ∧
    (d.length < s.regs.chunkLen.toNat + 4 → exec .chunkSkip s = .next (errorState 0x22#8 0x01#8 skipped))

/-- R168: CHUNK_EMIT offers length, type, payload and CRC to the sink. The k bytes the sink accepts follow what OUT
held, OUT_POS advances by k mod 2^32, CRC_ACC holds the chunk's accumulator, and nothing else of the block changes. -/
def Obligations.ChunkEmitWritesOneChunk : Prop :=
  encode .chunkEmit = 0x23000000#32 ∧ ∀ s : State, s.regs.status.err = false →
    (s.params.csbCap < s.regs.chunkLen.toNat → exec .chunkEmit s = .next (errorState 0x23#8 0x08#8 s)) ∧
    (s.regs.chunkLen.toNat ≤ s.params.csbCap →
      let p := memRead s .csb 0 s.regs.chunkLen.toNat
      let t := s.regs.chunkType
      let bs := be32 s.regs.chunkLen ++ be32 t ++ p ++ be32 (chunkCrc t p)
      ∀ k, sinkAnswer s.sink bs = some k →
        let accepted : State := { s with
          out := s.out ++ bs.take k
          sink := ⟨s.sink.script.tail, s.sink.drawn + 1⟩
          regs := { s.regs with crcAcc := chunkCrcAcc t p, outPos := s.regs.outPos + BitVec.ofNat 32 k } }
        (k = bs.length → exec .chunkEmit s = .next accepted) ∧
        (k < bs.length → exec .chunkEmit s = .next (errorState 0x23#8 0x01#8 accepted)))

/-- R174: IDAT_EMIT compresses SLB and writes exactly one IDAT chunk. The k bytes the sink accepts follow what OUT
held, OUT_POS advances by k mod 2^32, CHUNK_LEN, CHUNK_TYPE and CRC_ACC are those of the chunk, and nothing else of the
block changes. -/
def Obligations.IdatEmitWritesOneChunk : Prop :=
  encode .idatEmit = 0x25000000#32 ∧ ∀ s : State, s.regs.status.err = false →
    (s.regs.status.cfg = false → exec .idatEmit s = .next (errorState 0x25#8 0x10#8 s)) ∧
    (s.regs.status.cfg = true →
      let a := deflateAnswer s (memRead s .slb 0 s.regs.slbSize.toNat) s.params.zoutCap
      let z := a.output
      let len : Word := BitVec.ofNat 32 z.length
      let tag : Word := 0x49444154#32
      let bs := be32 len ++ be32 tag ++ z ++ be32 (chunkCrc tag z)
      let asked : State := { s with deflater := ⟨s.deflater.script.tail, s.deflater.drawn + 1⟩ }
      (a.ok = false → exec .idatEmit s = .next (errorState 0x25#8 0x05#8 asked)) ∧
      (a.ok = true → ∀ k, sinkAnswer s.sink bs = some k →
        let accepted : State := { asked with
          out := s.out ++ bs.take k
          sink := ⟨s.sink.script.tail, s.sink.drawn + 1⟩
          regs := { s.regs with
            chunkLen := len, chunkType := tag, crcAcc := chunkCrcAcc tag z
            outPos := s.regs.outPos + BitVec.ofNat 32 k } }
        (k = bs.length → exec .idatEmit s = .next accepted) ∧
        (k < bs.length → exec .idatEmit s = .next (errorState 0x25#8 0x01#8 accepted))))

/-- R169: IDAT_RUN's preconditions in their order, and its start: the block goes on with the first turn of the
loop from a fresh session with FR_OUT and IDAT_COUNT cleared. One turn a step is the model's reading of R313 (log
entry 7). -/
def Obligations.IdatRunStarts : Prop :=
  encode .idatRun = 0x24000000#32 ∧ ∀ s : State, s.regs.status.err = false →
    ((s.regs.status.cfg = false ∨ s.regs.chunkType ≠ 0x49444154#32) →
      exec .idatRun s = .next (errorState 0x24#8 0x10#8 s)) ∧
    (s.regs.status.cfg = true → s.regs.chunkType = 0x49444154#32 → s.regs.status.frState ≠ .idle →
      exec .idatRun s = .next (errorState 0x24#8 0x03#8 s)) ∧
    (s.regs.status.cfg = true → s.regs.chunkType = 0x49444154#32 → s.regs.status.frState = .idle →
      exec .idatRun s = .next (idatTurn { s with
        session := some s.inflater.opened
        inflater := { s.inflater with opened := s.inflater.opened + 1 }
        frZst := .more
        regs := { s.regs with frOut := 0#32, idatCount := 0#32 }
        running := true }))

/-- R169 to R172, for a run of one IDAT chunk: everything the command leaves when the chunk is whole and its CRC
fits, the inflater takes it all, says `complete` and fills SLB, and the next header is no IDAT header. -/
def Obligations.IdatRunOfOneChunkCompletes : Prop :=
  ∀ (s : State) (p q h : List Byte) (src src' src'' : Source) (a : InflateAnswer) (rest : List InflateAnswer),
    s.regs.status.err = false → s.regs.status.cfg = true → s.regs.status.frState = .idle →
    s.regs.chunkType = 0x49444154#32 → s.regs.chunkLen.toNat ≤ s.params.csbCap →
    Delivers s.source s.regs.chunkLen.toNat p src → p.length = s.regs.chunkLen.toNat →
    Delivers src 4 q src' → q.length = 4 → unBe32 q = chunkCrc 0x49444154#32 p →
    Delivers src' 8 h src'' → h.length = 8 → unBe32 (h.drop 4) ≠ 0x49444154#32 →
    s.inflater.script = a :: rest → a.consumed = p.length → a.status = .complete →
    a.output.length = s.regs.slbSize.toNat →
    ∃ t, exec .idatRun s = .next t ∧
      t = { s with
        regs := { s.regs with
          status := { s.regs.status with frState := .done }
          crcExpect := unBe32 q, crcAcc := chunkCrcAcc 0x49444154#32 p
          chunkLen := unBe32 (h.take 4), chunkType := unBe32 (h.drop 4)
          frOut := s.regs.slbSize, idatCount := 1#32
          inPos := s.regs.inPos + BitVec.ofNat 32 (p.length + 12) }
        slb := putBytes s.slb 0 a.output
        csb := putBytes s.csb 0 p
        frZst := .complete
        session := some s.inflater.opened
        running := false
        source := src''
        inflater := ⟨rest, s.inflater.drawn + 1, s.inflater.opened + 1⟩ }

/-- R170 to R173: one turn of a run whose chunk and CRC come whole and fit, in its ends: the inflater says
`error`; it does not consume all; the next header is short; the next chunk is IDAT, and the run goes on; the run
ends and passes, or fails, the end check. Output is written before the consumed count is checked. Beyond
2^32 − 1 the spec states no value of IDAT_COUNT: there it is the model's free value (log entry 13). -/
def Obligations.IdatTurnTakesOneChunk : Prop :=
  ∀ (s : State) (p q : List Byte) (src src' : Source),
    s.regs.chunkLen.toNat ≤ s.params.csbCap → Delivers s.source s.regs.chunkLen.toNat p src →
    p.length = s.regs.chunkLen.toNat → Delivers src 4 q src' → q.length = 4 →
    unBe32 q = chunkCrc 0x49444154#32 p →
    let body := loadCrcs (unBe32 q) (chunkCrcAcc 0x49444154#32 p)
      (received (memWrite (received s src p.length) .csb 0 p) src' 4)
    let a := inflateAnswer body p (s.regs.slbSize.toNat - s.regs.frOut.toNat)
    let called := inflateCalled a.status body
    let wrote := setFrOut (s.regs.frOut + BitVec.ofNat 32 a.output.length)
      (memWrite called .slb s.regs.frOut.toNat a.output)
    let fed := setIdatCount
      (if s.regs.idatCount = 0xFFFFFFFF#32 then Config.idatCountBeyond called.inflater.drawn
       else s.regs.idatCount + 1#32) wrote
    (a.status = .error → idatTurn s = failRun .compressionError called) ∧
    (a.status ≠ .error → a.consumed ≠ p.length → idatTurn s = failRun .compressionError wrote) ∧
    (a.status ≠ .error → a.consumed = p.length → ∀ (h : List Byte) (src'' : Source), Delivers src' 8 h src'' →
      (h.length < 8 → idatTurn s = failRun .ioError (received fed src'' h.length)) ∧
      (h.length = 8 →
        let next := setChunk (unBe32 (h.take 4)) (unBe32 (h.drop 4)) (received fed src'' 8)
        (unBe32 (h.drop 4) = 0x49444154#32 → idatTurn s = next) ∧
        (unBe32 (h.drop 4) ≠ 0x49444154#32 →
          (a.status = .complete ∧ next.regs.frOut = s.regs.slbSize →
            idatTurn s = { next with
              regs := { next.regs with status := { next.regs.status with frState := .done } }, running := false }) ∧
          (¬ (a.status = .complete ∧ next.regs.frOut = s.regs.slbSize) →
            idatTurn s = failRun .compressionError next))))

/-- R164, R171, R173, R275: a run in progress takes one turn a step (log entry 7); the errors of its chunk body (MemoryError, a short
payload kept in CSB, a short CRC field, a CRC that does not fit); every error raised in a run is entered with ERROP =
0x24 and leaves FR_STATE = FAILED and no run in progress. -/
def Obligations.IdatRunErrorsLeaveFailed : Prop :=
  (∀ s : State, s.hung = none → s.running = true → s.host.head? ≠ some .powerOn → step s = .next (idatTurn s)) ∧
  (∀ s : State, s.regs.status.err = false → (idatTurn s).regs.status.err = true →
    (idatTurn s).regs.status.frState = .failed ∧ (idatTurn s).running = false ∧
    (idatTurn s).regs.status.errOp = 0x24#8 ∧
    (idatTurn s).regs.status.errCode ∈ [0x01#8, 0x04#8, 0x05#8, 0x08#8]) ∧
  (∀ s : State, s.params.csbCap < s.regs.chunkLen.toNat → idatTurn s = failRun .memoryError s) ∧
  (∀ (s : State) (p : List Byte) (src : Source), s.regs.chunkLen.toNat ≤ s.params.csbCap →
    Delivers s.source s.regs.chunkLen.toNat p src →
    let kept := memWrite (received s src p.length) .csb 0 p
    (p.length < s.regs.chunkLen.toNat → idatTurn s = failRun .ioError kept) ∧
    (p.length = s.regs.chunkLen.toNat → ∀ (q : List Byte) (src' : Source), Delivers src 4 q src' →
      (q.length < 4 → idatTurn s = failRun .ioError (received kept src' q.length)) ∧
      (q.length = 4 → unBe32 q ≠ chunkCrc 0x49444154#32 p →
        idatTurn s = failRun .crcError
          (loadCrcs (unBe32 q) (chunkCrcAcc 0x49444154#32 p) (received kept src' 4)))))

/-- R171: each turn that leaves the run in progress has consumed at least 12 bytes of a finite source, so the loop
ends. -/
def Obligations.IdatTurnConsumesTheSource : Prop :=
  ∀ (s : State) (bs : List Byte), s.source = .stream bs → (idatTurn s).running = true →
    ∃ bs', (idatTurn s).source = .stream bs' ∧ bs'.length + 12 ≤ bs.length

/-- R170, R62: no turn of a run writes SLB at or above SLB_SIZE, or PIX, or CSB at or above CHUNK_LEN; FR_OUT stays
within SLB_SIZE. -/
def Obligations.IdatTurnStaysInTheBuffers : Prop :=
  ∀ s : State, s.regs.frOut.toNat ≤ s.regs.slbSize.toNat →
    (∀ a, s.regs.slbSize.toNat ≤ a → readByte (idatTurn s) .slb a = readByte s .slb a) ∧
    (∀ a, a < s.regs.frOut.toNat → readByte (idatTurn s) .slb a = readByte s .slb a) ∧
    (∀ a, readByte (idatTurn s) .pix a = readByte s .pix a) ∧
    (∀ a, s.regs.chunkLen.toNat ≤ a → readByte (idatTurn s) .csb a = readByte s .csb a) ∧
    (idatTurn s).regs.frOut.toNat ≤ s.regs.slbSize.toNat

/-! ## Scanline filters (43_filter.md) -/

/-- R202, R203: the predictor of each filter type; Paeth takes the nearest of a, b, c to p = a + b − c, in exact
arithmetic, a winning every tie it is in and b a tie with c. -/
def Obligations.Predictors : Prop :=
  ∀ a b c : Byte,
    pred .none a b c = 0#8 ∧ pred .sub a b c = a ∧ pred .up a b c = b ∧
    (pred .average a b c).toNat = (a.toNat + b.toNat) / 2 ∧
    (let p : Int := (a.toNat : Int) + b.toNat - c.toNat
     let pa := |p - a.toNat|
     let pb := |p - b.toNat|
     let pc := |p - c.toNat|
     (pa ≤ pb ∧ pa ≤ pc → pred .paeth a b c = a) ∧
     (pb < pa ∧ pb ≤ pc → pred .paeth a b c = b) ∧
     (pc < pa ∧ pc < pb → pred .paeth a b c = c))

/-- R201, R204: byte x of a reconstructed row is the filtered byte plus, mod 256, the prediction from the
reconstructed byte S to the left, the byte above and the byte above that left byte, each 0 where there is none. -/
def Obligations.UnfilterRowRecurrence : Prop :=
  ∀ (ft : FilterType) (stride : Nat) (prev : Option (List Byte)) (cur : List Byte), 1 ≤ stride →
    let out := unfilterRow ft stride prev cur
    out.length = cur.length ∧
    ∀ x < cur.length,
      let a := if stride ≤ x then out.getD (x - stride) 0#8 else 0#8
      let b := prev.elim 0#8 fun p => p.getD x 0#8
      let c := if stride ≤ x then prev.elim 0#8 fun p => p.getD (x - stride) 0#8 else 0#8
      out.getD x 0#8 = cur.getD x 0#8 + pred ft a b c

/-- R207: byte x of a filtered row is the raw byte minus, mod 256, the prediction from raw bytes. -/
def Obligations.FilterRowResiduals : Prop :=
  ∀ (ft : FilterType) (stride : Nat) (prev : Option (List Byte)) (raw : List Byte),
    (filterRow ft stride prev raw).length = raw.length ∧
    ∀ x < raw.length,
      let a := if stride ≤ x then raw.getD (x - stride) 0#8 else 0#8
      let b := prev.elim 0#8 fun p => p.getD x 0#8
      let c := if stride ≤ x then prev.elim 0#8 fun p => p.getD (x - stride) 0#8 else 0#8
      (filterRow ft stride prev raw).getD x 0#8 = raw.getD x 0#8 - pred ft a b c

/-- R210, for one row: reconstruction undoes filtering, for every filter type, stride and row above. -/
def Obligations.UnfilterUndoesFilter : Prop :=
  ∀ (ft : FilterType) (stride : Nat) (prev : Option (List Byte)) (raw : List Byte), 1 ≤ stride →
    unfilterRow ft stride prev (filterRow ft stride prev raw) = raw

/-- R205: UNFILTER_ROW in its ends: SequenceError, UnknownFilterError with nothing written, and the next row
reconstructed in place with UF_ROW advanced. -/
def Obligations.UnfilterRowReconstructs : Prop :=
  encode .unfilterRow = 0x30000000#32 ∧ ∀ s : State, s.regs.status.err = false →
    ((s.regs.status.cfg = false ∨ s.regs.height.toNat ≤ s.regs.ufRow.toNat) →
      exec .unfilterRow s = .next (errorState 0x30#8 0x10#8 s)) ∧
    (s.regs.status.cfg = true → s.regs.ufRow.toNat < s.regs.height.toNat →
      let i := s.regs.ufRow.toNat
      let p := s.regs.pitch.toNat
      let prev := if 1 ≤ i then some (memRead s .slb ((i - 1) * (p + 1) + 1) p) else none
      let cur := memRead s .slb (i * (p + 1) + 1) p
      (4 < (readByte s .slb (i * (p + 1))).toNat → exec .unfilterRow s = .next (errorState 0x30#8 0x06#8 s)) ∧
      (∀ ft, filterTypeOf (readByte s .slb (i * (p + 1))) = some ft →
        exec .unfilterRow s = .next { memWrite s .slb (i * (p + 1) + 1) (unfilterRow ft s.regs.stride.toNat prev cur) with
          regs := { s.regs with ufRow := s.regs.ufRow + 1#32 } }))

/-- R206: UNFILTER_ALL does what UNFILTER_ROW does for every remaining row up to the first, k, whose filter byte
exceeds 4: rows before k are reconstructed, bytes from row k on are unchanged, UF_ROW = k; with no such row k is
HEIGHT and no error is raised. -/
def Obligations.UnfilterAllRepeatsUnfilterRow : Prop :=
  encode .unfilterAll = 0x31000000#32 ∧ ∀ s : State, s.regs.status.err = false →
    (s.regs.status.cfg = false → exec .unfilterAll s = .next (errorState 0x31#8 0x10#8 s)) ∧
    (s.regs.status.cfg = true → ∀ k, s.regs.ufRow.toNat ≤ k → k ≤ s.regs.height.toNat →
      (∀ i, s.regs.ufRow.toNat ≤ i → i < k → (readByte s .slb (i * (s.regs.pitch.toNat + 1))).toNat ≤ 4) →
      ∃ u, execAll (List.replicate (k - s.regs.ufRow.toNat) .unfilterRow) s = .next u ∧
        u.regs.ufRow.toNat = k ∧ u.regs.status = s.regs.status ∧
        (∀ a, k * (s.regs.pitch.toNat + 1) ≤ a → readByte u .slb a = readByte s .slb a) ∧
        (k = s.regs.height.toNat → exec .unfilterAll s = .next u) ∧
        (k < s.regs.height.toNat → 4 < (readByte s .slb (k * (s.regs.pitch.toNat + 1))).toNat →
          exec .unfilterAll s = .next (errorState 0x31#8 0x06#8 u)))

/-- R208: FILTER_ROW filters row FE_LEFT − 1 in place from raw rows,
writes its filter byte and counts FE_LEFT down. -/
def Obligations.FilterRowFilters : Prop :=
  (∀ ft : Byte, encode (.filterRow ft) = 0x32#8 ++ ft ++ 0#16) ∧ ∀ (s : State) (ftByte : Byte), s.regs.status.err = false →
    (ftByte.toNat ≤ 4 → (s.regs.status.cfg = false ∨ s.regs.feLeft = 0#32) →
      exec (.filterRow ftByte) s = .next (errorState 0x32#8 0x10#8 s)) ∧
    (∀ ft, filterTypeOf ftByte = some ft → s.regs.status.cfg = true → 1 ≤ s.regs.feLeft.toNat →
      let i := s.regs.feLeft.toNat - 1
      let p := s.regs.pitch.toNat
      let prev := if 1 ≤ i then some (memRead s .slb ((i - 1) * (p + 1) + 1) p) else none
      let raw := memRead s .slb (i * (p + 1) + 1) p
      exec (.filterRow ftByte) s = .next
        { memWrite s .slb (i * (p + 1)) (ftByte :: filterRow ft s.regs.stride.toNat prev raw) with
          regs := { s.regs with feLeft := s.regs.feLeft - 1#32 } })

/-- R209: FILTER_ALL does what FE_LEFT FILTER_ROW commands of the same type do, and cannot fail once it starts. -/
def Obligations.FilterAllRepeatsFilterRow : Prop :=
  (∀ ft : Byte, encode (.filterAll ft) = 0x33#8 ++ ft ++ 0#16) ∧ ∀ (s : State) (ft : Byte), s.regs.status.err = false →
    (ft.toNat ≤ 4 → s.regs.status.cfg = false → exec (.filterAll ft) s = .next (errorState 0x33#8 0x10#8 s)) ∧
    (ft.toNat ≤ 4 → s.regs.status.cfg = true →
      ∃ u, exec (.filterAll ft) s = .next u ∧
        execAll (List.replicate s.regs.feLeft.toNat (.filterRow ft)) s = .next u ∧
        u.regs.feLeft = 0#32 ∧ u.regs.status = s.regs.status)

/-- R210, the inverse law: FILTER_ALL ft, or H FILTER_ROW commands of any types (the first for row H − 1), followed
by UNFILTER_ALL, leaves every data byte as it was and every row's filter byte its type. -/
def Obligations.FilterThenUnfilterRestores : Prop :=
  ∀ s : State, s.Inv → s.regs.status.err = false → s.regs.status.cfg = true → s.regs.feLeft = s.regs.height →
    s.regs.ufRow = 0#32 →
    let h := s.regs.height.toNat
    let p := s.regs.pitch.toNat
    (∀ ft : Byte, ft.toNat ≤ 4 → ∃ t, execAll [.filterAll ft, .unfilterAll] s = .next t ∧
      t.regs.status = s.regs.status ∧ ∀ i < h,
        readByte t .slb (i * (p + 1)) = ft ∧
        ∀ x < p, readByte t .slb (i * (p + 1) + 1 + x) = readByte s .slb (i * (p + 1) + 1 + x)) ∧
    (∀ fts : List Byte, fts.length = h → (∀ ft ∈ fts, ft.toNat ≤ 4) →
      ∃ t, execAll (fts.map .filterRow ++ [.unfilterAll]) s = .next t ∧
      t.regs.status = s.regs.status ∧ ∀ i < h,
        readByte t .slb (i * (p + 1)) = fts.getD (h - 1 - i) 0#8 ∧
        ∀ x < p, readByte t .slb (i * (p + 1) + 1 + x) = readByte s .slb (i * (p + 1) + 1 + x))

/-! ## Bit depth (44_bitdepth.md) -/

/-- R240: sample k of a packed row is the group of D bits at [7 − (k·D mod 8) : 8 − D − (k·D mod 8)] of byte
k·D div 8, unscaled; at depth 8 the row is copied. -/
def Obligations.UnpackedSamples : Prop :=
  (∀ (d n k : Nat) (row : List Byte), (d = 1 ∨ d = 2 ∨ d = 4) → k < n →
    (unpackRow d n row).length = n ∧
    ((unpackRow d n row).getD k 0#8).toNat =
      (row.getD (k * d / 8) 0#8).toNat / 2 ^ (8 - d - k * d % 8) % 2 ^ d) ∧
  (∀ (n : Nat) (row : List Byte), row.length = n → unpackRow 8 n row = row)

/-- R246, for one row of P = ceil(n·D / 8) bytes: unpacking undoes packing of samples in range, and packing undoes
unpacking with the padding bits set to 0 (bit k of byte j is bit 8·j + 7 − k of the row). -/
def Obligations.PackAndUnpackAreInverse : Prop :=
  ∀ (d n : Nat), (d = 1 ∨ d = 2 ∨ d = 4 ∨ d = 8) →
    (∀ samples : List Byte, samples.length = n → (∀ v ∈ samples, v.toNat ≤ 2 ^ d - 1) →
      (packRow d ((n * d + 7) / 8) n samples).length = (n * d + 7) / 8 ∧
      unpackRow d n (packRow d ((n * d + 7) / 8) n samples) = samples) ∧
    (∀ row : List Byte, row.length = (n * d + 7) / 8 → ∀ j < row.length, ∀ k < 8,
      ((packRow d row.length n (unpackRow d n row)).getD j 0#8).getLsbD k =
        ((row.getD j 0#8).getLsbD k && decide (8 * j + 7 - k < n * d)))

/-- R241: UNPACK_ROW writes row UP_ROW's samples to PIX and advances UP_ROW. -/
def Obligations.UnpackRowUnpacks : Prop :=
  encode .unpackRow = 0x40000000#32 ∧ ∀ s : State, s.regs.status.err = false →
    ((s.regs.status.cfg = false ∨ s.regs.height.toNat ≤ s.regs.upRow.toNat) →
      exec .unpackRow s = .next (errorState 0x40#8 0x10#8 s)) ∧
    (s.regs.status.cfg = true → s.regs.upRow.toNat < s.regs.height.toNat →
      let r := s.regs.upRow.toNat
      let p := s.regs.pitch.toNat
      let n := s.regs.width.toNat * s.regs.channels.toNat
      exec .unpackRow s = .next
        { memWrite s .pix (r * n) (unpackRow s.regs.bitDepth.toNat n (memRead s .slb (r * (p + 1) + 1) p)) with
          regs := { s.regs with upRow := s.regs.upRow + 1#32 } })

/-- R242: UNPACK_ALL does what UNPACK_ROW does for every remaining row, and cannot fail once it starts. -/
def Obligations.UnpackAllRepeatsUnpackRow : Prop :=
  encode .unpackAll = 0x41000000#32 ∧ ∀ s : State, s.regs.status.err = false →
    (s.regs.status.cfg = false → exec .unpackAll s = .next (errorState 0x41#8 0x10#8 s)) ∧
    (s.regs.status.cfg = true → s.regs.upRow.toNat ≤ s.regs.height.toNat →
      ∃ u, exec .unpackAll s = .next u ∧
        execAll (List.replicate (s.regs.height.toNat - s.regs.upRow.toNat) .unpackRow) s = .next u ∧
        u.regs.upRow = s.regs.height ∧ u.regs.status = s.regs.status)

/-- R244: PACK_ROW writes a filter byte 0 and the packed samples of row PK_ROW and advances PK_ROW; a sample above
2^D − 1 at a depth below 8 raises SampleRangeError and writes nothing. -/
def Obligations.PackRowPacks : Prop :=
  encode .packRow = 0x42000000#32 ∧ ∀ s : State, s.regs.status.err = false →
    ((s.regs.status.cfg = false ∨ s.regs.height.toNat ≤ s.regs.pkRow.toNat) →
      exec .packRow s = .next (errorState 0x42#8 0x10#8 s)) ∧
    (s.regs.status.cfg = true → s.regs.pkRow.toNat < s.regs.height.toNat →
      let r := s.regs.pkRow.toNat
      let p := s.regs.pitch.toNat
      let d := s.regs.bitDepth.toNat
      let n := s.regs.width.toNat * s.regs.channels.toNat
      let samples := memRead s .pix (r * n) n
      ((d < 8 ∧ ∃ v ∈ samples, 2 ^ d - 1 < v.toNat) → exec .packRow s = .next (errorState 0x42#8 0x12#8 s)) ∧
      ((d < 8 → ∀ v ∈ samples, v.toNat ≤ 2 ^ d - 1) → exec .packRow s = .next
        { memWrite s .slb (r * (p + 1)) (0#8 :: packRow d p n samples) with
          regs := { s.regs with pkRow := s.regs.pkRow + 1#32 } }))

/-- R245: PACK_ALL does what PACK_ROW does for every remaining row up to the first, k, that holds a sample out of
range: rows before k are packed, bytes from row k on are unchanged, PK_ROW = k. -/
def Obligations.PackAllRepeatsPackRow : Prop :=
  encode .packAll = 0x43000000#32 ∧ ∀ s : State, s.regs.status.err = false →
    (s.regs.status.cfg = false → exec .packAll s = .next (errorState 0x43#8 0x10#8 s)) ∧
    (s.regs.status.cfg = true →
      let d := s.regs.bitDepth.toNat
      let n := s.regs.width.toNat * s.regs.channels.toNat
      let p := s.regs.pitch.toNat
      s.regs.pitch.toNat = (n * d + 7) / 8 → (d = 1 ∨ d = 2 ∨ d = 4 ∨ d = 8) →
      ∀ k, s.regs.pkRow.toNat ≤ k → k ≤ s.regs.height.toNat →
      (∀ i, s.regs.pkRow.toNat ≤ i → i < k → ∀ x < n, (readByte s .pix (i * n + x)).toNat ≤ 2 ^ d - 1) →
      ∃ u, execAll (List.replicate (k - s.regs.pkRow.toNat) .packRow) s = .next u ∧
        u.regs.pkRow.toNat = k ∧ u.regs.status = s.regs.status ∧
        (∀ a, k * (p + 1) ≤ a → readByte u .slb a = readByte s .slb a) ∧
        (k = s.regs.height.toNat → exec .packAll s = .next u) ∧
        (k < s.regs.height.toNat → (∃ x < n, 2 ^ d - 1 < (readByte s .pix (k * n + x)).toNat) →
          exec .packAll s = .next (errorState 0x43#8 0x12#8 u)))

/-- R246, at the level of the block: right after a successful CONFIGURE and with every PIX sample in range,
PACK_ALL, FILTER_ALL ft, UNFILTER_ALL, UNPACK_ALL returns PIX to its starting samples. -/
def Obligations.PackToUnpackRoundTrip : Prop :=
  ∀ (s s₀ : State) (ft : Byte), s.Inv → s.running = false → s.regs.status.err = false →
    exec .configure s = .next s₀ → s₀.regs.status.err = false → ft.toNat ≤ 4 →
    (∀ k < s₀.regs.pixSize.toNat, (readByte s₀ .pix k).toNat ≤ 2 ^ s₀.regs.bitDepth.toNat - 1) →
    ∃ t, execAll [.packAll, .filterAll ft, .unfilterAll, .unpackAll] s₀ = .next t ∧
      t.regs.status = s₀.regs.status ∧ ∀ k, readByte t .pix k = readByte s₀ .pix k

/-! ## Buffers and frames (20_memory.md) -/

/-- R61: MemWrite stores byte j of the sequence at offset addr + j and changes no other byte of any buffer. -/
def Obligations.MemWriteChangesOnlyItsBytes : Prop :=
  ∀ (s : State) (sp : Space) (addr : Nat) (bs : List Byte),
    (∀ j < bs.length, readByte (memWrite s sp addr bs) sp (addr + j) = bs.getD j 0#8) ∧
    OnlyBytes s (memWrite s sp addr bs) sp addr bs.length ∧
    memRead (memWrite s sp addr bs) sp addr bs.length = bs

/-- The frame of the commands that store to no buffer: no buffer byte changes, whatever way they end. -/
def Obligations.CommandsThatStoreNothing : Prop :=
  ∀ (i : Instr) (s t : State),
    i ∈ [.nop, .configure, .crcInit, .crcType, .crcCsb, .crcCheck, .chunkHdr, .chunkSkip, .chunkEmit, .idatEmit] →
    exec i s = .next t → SameBytes s t ∧ t.params = s.params ∧ t.host = s.host ∧ t.reply = s.reply ∧
      t.inflater = s.inflater ∧ t.powerCycles = s.powerCycles

/-- The frame of the row commands, whatever way they end: UNFILTER_ROW stores only the P data bytes of row UF_ROW,
FILTER_ROW only row FE_LEFT − 1 with its filter byte, PACK_ROW only row PK_ROW with its filter byte, UNPACK_ROW
only the W·N samples of row UP_ROW; STATUS and the unit's own counter are the only registers that change. -/
def Obligations.RowCommandsStoreOneRow : Prop :=
  ∀ (s t : State), s.Inv →
    let p := s.regs.pitch.toNat
    let n := s.regs.width.toNat * s.regs.channels.toNat
    (exec .unfilterRow s = .next t → OnlyBytes s t .slb (dataAt s.regs s.regs.ufRow.toNat 0) p ∧
      t.regs = { s.regs with status := t.regs.status, ufRow := t.regs.ufRow }) ∧
    (∀ ft, exec (.filterRow ft) s = .next t →
      OnlyBytes s t .slb (filtAt s.regs (s.regs.feLeft.toNat - 1)) (p + 1) ∧
      t.regs = { s.regs with status := t.regs.status, feLeft := t.regs.feLeft }) ∧
    (exec .packRow s = .next t → OnlyBytes s t .slb (filtAt s.regs s.regs.pkRow.toNat) (p + 1) ∧
      t.regs = { s.regs with status := t.regs.status, pkRow := t.regs.pkRow }) ∧
    (exec .unpackRow s = .next t → OnlyBytes s t .pix (pixAt s.regs s.regs.upRow.toNat 0) n ∧
      t.regs = { s.regs with status := t.regs.status, upRow := t.regs.upRow })

/-- R62, R63: no command changes an SLB byte at or above SLB_SIZE or a PIX byte at or above PIX_SIZE, nor a CSB byte
at or above CHUNK_LEN. -/
def Obligations.CommandsStayInTheActiveBuffers : Prop :=
  ∀ (i : Instr) (s t : State), s.Inv → exec i s = .next t →
    (∀ a, s.regs.slbSize.toNat ≤ a → readByte t .slb a = readByte s .slb a) ∧
    (∀ a, s.regs.pixSize.toNat ≤ a → readByte t .pix a = readByte s .pix a) ∧
    (∀ a, s.regs.chunkLen.toNat ≤ a → readByte t .csb a = readByte s .csb a)

/-! ## Invariants -/

/-- The state right after power-on meets the invariant. -/
def Obligations.ResetMeetsInvariant : Prop := State.reset.Inv

/-- Every step keeps the invariant: the buffers canonical and within their capacities, the derived geometry that
of an accepted descriptor while CFG = 1 and zero while CFG = 0 (R31 to R36), the row counters within HEIGHT (R37 to
R40), FR_OUT within SLB_SIZE while CFG = 1 (R46, log entry 8), ERRCODE and ERROP 0 while ERR = 0 and ERRCODE a code of R271 while
ERR = 1 (R23), and the framer's state consistent (R52, R172, R173). -/
def Obligations.StepKeepsInvariant : Prop :=
  ∀ s t : State, s.Inv → step s = .next t → t.Inv

/-- R277, R273: the only way out of STATUS.ERR = 1 is a reset, power-on or a command word with OP = 0x01; until then
the first error's code and opcode are kept. -/
def Obligations.OnlyResetLeavesTheErrorState : Prop :=
  ∀ s t : State, s.Inv → s.regs.status.err = true → step s = .next t →
    s.host.head? = some .powerOn ∨
    (∃ w : Word, s.host.head? = some (.write cmdAddress .word w) ∧ w.toNat / 2 ^ 24 = 0x01) ∨
    (t.regs.status.err = true ∧ t.regs.status.errCode = s.regs.status.errCode ∧
      t.regs.status.errOp = s.regs.status.errOp)

/-! ## Host accesses (10_state.md, 20_memory.md section 2) -/

/-- R31, R24 to R30: a host write to a geometry register stores the value, masked to the register's used bits, and
sets CFG and the derived geometry to 0; it changes nothing else, whatever the value and whatever STATUS.ERR. -/
def Obligations.GeometryWriteUnconfigures : Prop :=
  ∀ (s : State) (v : Word),
    let cleared (r : Regs) : State := { s with regs := { r with
      status := { r.status with cfg := false }, channels := 0#3, stride := 0#3, pitch := 0#32, slbSize := 0#32,
      pixSize := 0#32 } }
    hostWrite 0x04#32 .word v s = .next (cleared { s.regs with width := v }) ∧
    hostWrite 0x08#32 .word v s = .next (cleared { s.regs with height := v }) ∧
    hostWrite 0x0C#32 .word v s = .next (cleared { s.regs with bitDepth := v.extractLsb' 0 8 }) ∧
    hostWrite 0x10#32 .word v s = .next (cleared { s.regs with colorType := v.extractLsb' 0 8 }) ∧
    hostWrite 0x14#32 .word v s = .next (cleared { s.regs with compression := v.extractLsb' 0 8 }) ∧
    hostWrite 0x18#32 .word v s = .next (cleared { s.regs with filterMethod := v.extractLsb' 0 8 }) ∧
    hostWrite 0x1C#32 .word v s = .next (cleared { s.regs with interlace := v.extractLsb' 0 8 })

/-- R22, R43 to R45, R50, R51: a write to an RO register or a reserved offset is ignored; CRC_EXPECT, CHUNK_LEN and
CHUNK_TYPE store the value; a write to CMD issues the command. -/
def Obligations.OtherRegisterWrites : Prop :=
  ∀ (s : State) (v : Word),
    (∀ off : Word, off.toNat < 0x100 → off.toNat % 4 = 0 →
      (off = 0#32 ∨ (0x20 ≤ off.toNat ∧ off.toNat ≤ 0x48) ∨ (0x58 ≤ off.toNat ∧ off.toNat ≤ 0x64) ∨ 0x6C ≤ off.toNat) →
      hostWrite off .word v s = .next s) ∧
    hostWrite 0x4C#32 .word v s = .next { s with regs := { s.regs with crcExpect := v } } ∧
    hostWrite 0x50#32 .word v s = .next { s with regs := { s.regs with chunkLen := v } } ∧
    hostWrite 0x54#32 .word v s = .next { s with regs := { s.regs with chunkType := v } } ∧
    hostWrite 0x68#32 .word v s = issueCommand v s

/-- R22, R23, R42, R50, R51: what a register read returns, offset by offset (in the model's reply field, log entry 1),
with no side effect: the fields of STATUS at their places, each other register's field with zeros above its used bits,
CRC_RESULT as CRC_ACC xor 0xFFFFFFFF, 0 at CMD and at the reserved offsets. -/
def Obligations.RegisterReads : Prop :=
  ∀ s : State,
    let reads (off v : Word) : Prop := hostRead off .word s = .next { s with reply := some v }
    (∃ w : Word, reads 0x00#32 w ∧
      w.toNat % 2 = s.regs.status.err.toNat ∧ w.toNat / 2 % 2 = s.regs.status.cfg.toNat ∧
      w.toNat / 4 % 4 = (match s.regs.status.frState with | .idle => 0 | .done => 1 | .failed => 2) ∧
      w.toNat / 2 ^ 4 % 16 = 0 ∧ w.toNat / 2 ^ 8 % 256 = s.regs.status.errCode.toNat ∧
      w.toNat / 2 ^ 16 % 256 = s.regs.status.errOp.toNat ∧ w.toNat / 2 ^ 24 = 0) ∧
    reads 0x04#32 s.regs.width ∧ reads 0x08#32 s.regs.height ∧
    reads 0x0C#32 (s.regs.bitDepth.setWidth 32) ∧ reads 0x10#32 (s.regs.colorType.setWidth 32) ∧
    reads 0x14#32 (s.regs.compression.setWidth 32) ∧ reads 0x18#32 (s.regs.filterMethod.setWidth 32) ∧
    reads 0x1C#32 (s.regs.interlace.setWidth 32) ∧ reads 0x20#32 (s.regs.channels.setWidth 32) ∧
    reads 0x24#32 (s.regs.stride.setWidth 32) ∧ reads 0x28#32 s.regs.pitch ∧ reads 0x2C#32 s.regs.slbSize ∧
    reads 0x30#32 s.regs.pixSize ∧ reads 0x34#32 s.regs.ufRow ∧ reads 0x38#32 s.regs.upRow ∧
    reads 0x3C#32 s.regs.pkRow ∧ reads 0x40#32 s.regs.feLeft ∧ reads 0x44#32 s.regs.crcAcc ∧
    reads 0x48#32 (s.regs.crcAcc ^^^ 0xFFFFFFFF#32) ∧ reads 0x4C#32 s.regs.crcExpect ∧
    reads 0x50#32 s.regs.chunkLen ∧ reads 0x54#32 s.regs.chunkType ∧ reads 0x58#32 s.regs.frOut ∧
    reads 0x5C#32 s.regs.inPos ∧ reads 0x60#32 s.regs.outPos ∧ reads 0x64#32 s.regs.idatCount ∧
    reads 0x68#32 0#32 ∧
    (∀ off : Word, 0x6C ≤ off.toNat → off.toNat < 0x100 → off.toNat % 4 = 0 → reads off 0#32)

/-- R65, R67: a byte access below a buffer's capacity reads or stores that byte, with no side effect on any
register. The reply field and the byte's place in the data are the model's (log entries 1 and 12). -/
def Obligations.BufferAccesses : Prop :=
  ∀ (s : State) (sp : Space) (off v : Word), s.params.Legal → off.toNat < s.params.cap sp →
    hostRead (spaceBase sp + off) .byte s = .next { s with reply := some ((readByte s sp off.toNat).setWidth 32) } ∧
    ∃ t, hostWrite (spaceBase sp + off) .byte v s = .next t ∧ readByte t sp off.toNat = v.extractLsb' 0 8 ∧
      OnlyBytes s t sp off.toNat 1 ∧ t.regs = s.regs

/-- R65, R68: the host accesses that have no step: a register access that is misaligned or not 32 bits wide, a buffer
access wider than a byte, an access at or above a capacity, and an unmapped address. Exactly these reads are refused,
and exactly these writes. -/
def Obligations.RefusedAccesses : Prop :=
  ∀ (s : State) (addr v : Word) (width : Width), s.params.Legal →
    let forbidden : Prop := addr.toNat < 0x100 ∧ (addr.toNat % 4 ≠ 0 ∨ width ≠ .word) ∨
      0x100 ≤ addr.toNat ∧ ∀ sp, addr.toNat < (spaceBase sp).toNat ∨ (spaceBase sp).toNat + s.params.cap sp ≤ addr.toNat ∨
        width ≠ .byte
    ((∃ r, hostRead addr width s = .refused r) ↔ forbidden) ∧ ((∃ r, hostWrite addr width v s = .refused r) ↔ forbidden)

/-- R313: a command whose StreamRead or StreamWrite is never answered leaves the block hung, with what it did before
kept and nothing transferred: CHUNK_HDR; CHUNK_READ at the payload and at the CRC field; CHUNK_SKIP; CHUNK_EMIT; a turn
of IDAT_RUN at the payload, at the CRC field and at the next header; IDAT_EMIT. A hung block has no further step until
power-on, which takes effect whatever the block is doing. How a hang and power-on are stepped, and IDAT_COUNT
beyond 2^32 − 1, are the model's (log entries 9, 10 and 13), and so is what power-on does to the unanswered request: it
is given up, and the next one is a fresh draw (log entry 16). -/
def Obligations.SilentStreamHangsTheBlock : Prop :=
  (∀ s : State, s.regs.status.err = false → SilentOn s.source 8 → exec .chunkHdr s = .next { s with hung := some .source }) ∧
  (∀ s : State, s.regs.status.err = false → s.regs.chunkLen.toNat ≤ s.params.csbCap →
    (SilentOn s.source s.regs.chunkLen.toNat → exec .chunkRead s = .next { s with hung := some .source }) ∧
    (∀ (p : List Byte) (src : Source), Delivers s.source s.regs.chunkLen.toNat p src →
      p.length = s.regs.chunkLen.toNat → SilentOn src 4 →
      exec .chunkRead s = .next { memWrite (received s src p.length) .csb 0 p with hung := some .source })) ∧
  (∀ s : State, s.regs.status.err = false → SilentOn s.source (s.regs.chunkLen.toNat + 4) →
    exec .chunkSkip s = .next { s with hung := some .source }) ∧
  (∀ s : State, s.regs.status.err = false → s.regs.chunkLen.toNat ≤ s.params.csbCap →
    let p := memRead s .csb 0 s.regs.chunkLen.toNat
    let t := s.regs.chunkType
    sinkAnswer s.sink (be32 s.regs.chunkLen ++ be32 t ++ p ++ be32 (chunkCrc t p)) = none →
    exec .chunkEmit s = .next { s with regs := { s.regs with crcAcc := chunkCrcAcc t p }, hung := some .sink }) ∧
  (∀ s : State, s.regs.chunkLen.toNat ≤ s.params.csbCap →
    (SilentOn s.source s.regs.chunkLen.toNat → idatTurn s = { s with hung := some .source }) ∧
    (∀ (p : List Byte) (src : Source), Delivers s.source s.regs.chunkLen.toNat p src →
      p.length = s.regs.chunkLen.toNat →
      let kept := memWrite (received s src p.length) .csb 0 p
      (SilentOn src 4 → idatTurn s = { kept with hung := some .source }) ∧
      (∀ (q : List Byte) (src' : Source), Delivers src 4 q src' → q.length = 4 →
        unBe32 q = chunkCrc 0x49444154#32 p → SilentOn src' 8 →
        let body := loadCrcs (unBe32 q) (chunkCrcAcc 0x49444154#32 p) (received kept src' 4)
        let a := inflateAnswer body p (s.regs.slbSize.toNat - s.regs.frOut.toNat)
        let called := inflateCalled a.status body
        a.status ≠ .error → a.consumed = p.length →
        idatTurn s =
          { setIdatCount
              (if s.regs.idatCount = 0xFFFFFFFF#32 then Config.idatCountBeyond called.inflater.drawn
               else s.regs.idatCount + 1#32)
              (setFrOut (s.regs.frOut + BitVec.ofNat 32 a.output.length)
                (memWrite called .slb s.regs.frOut.toNat a.output)) with
            hung := some .source }))) ∧
  (∀ s : State, s.regs.status.err = false → s.regs.status.cfg = true →
    let a := deflateAnswer s (memRead s .slb 0 s.regs.slbSize.toNat) s.params.zoutCap
    let z := a.output
    let len : Word := BitVec.ofNat 32 z.length
    let tag : Word := 0x49444154#32
    a.ok = true → sinkAnswer s.sink (be32 len ++ be32 tag ++ z ++ be32 (chunkCrc tag z)) = none →
    exec .idatEmit s = .next { s with
      deflater := ⟨s.deflater.script.tail, s.deflater.drawn + 1⟩
      regs := { s.regs with chunkLen := len, chunkType := tag, crcAcc := chunkCrcAcc tag z }
      hung := some .sink }) ∧
  (∀ s : State, s.host.head? ≠ some .powerOn →
    (s.hung = some .source → step s = .fault .sourceNeverAnswers) ∧
    (s.hung = some .sink → step s = .fault .sinkNeverAnswers)) ∧
  (∀ (s : State) (rest : List HostEvent), s.host = .powerOn :: rest →
    ∃ t, step s = .next t ∧ t = powerOnReset { s with host := rest } ∧ t.hung = none ∧
      t.source = (if s.hung = some .source then sourceNext s.source 0 else s.source) ∧
      t.sink = (if s.hung = some .sink then ⟨s.sink.script.tail, s.sink.drawn + 1⟩ else s.sink))
end

