-- ==== Sys2Proof/Laws/State.lean ====
section
/-! SUPPORT. One lemma for each field and each named update of the state, so that no proof unfolds a record
update. -/

namespace Sys2Proof.Machine

/-! ## errorEntry -/

@[simp] theorem errorEntry_regs (op : Byte) (e : ErrKind) (s : State) : (errorEntry op e s).regs = { s.regs with status := statusError op e s.regs.status } := rfl
@[simp] theorem errorEntry_slb (op : Byte) (e : ErrKind) (s : State) : (errorEntry op e s).slb = s.slb := rfl
@[simp] theorem errorEntry_pix (op : Byte) (e : ErrKind) (s : State) : (errorEntry op e s).pix = s.pix := rfl
@[simp] theorem errorEntry_csb (op : Byte) (e : ErrKind) (s : State) : (errorEntry op e s).csb = s.csb := rfl
@[simp] theorem errorEntry_frZst (op : Byte) (e : ErrKind) (s : State) : (errorEntry op e s).frZst = s.frZst := rfl
@[simp] theorem errorEntry_session (op : Byte) (e : ErrKind) (s : State) : (errorEntry op e s).session = s.session := rfl
@[simp] theorem errorEntry_running (op : Byte) (e : ErrKind) (s : State) : (errorEntry op e s).running = s.running := rfl
@[simp] theorem errorEntry_hung (op : Byte) (e : ErrKind) (s : State) : (errorEntry op e s).hung = s.hung := rfl
@[simp] theorem errorEntry_params (op : Byte) (e : ErrKind) (s : State) : (errorEntry op e s).params = s.params := rfl
@[simp] theorem errorEntry_host (op : Byte) (e : ErrKind) (s : State) : (errorEntry op e s).host = s.host := rfl
@[simp] theorem errorEntry_reply (op : Byte) (e : ErrKind) (s : State) : (errorEntry op e s).reply = s.reply := rfl
@[simp] theorem errorEntry_source (op : Byte) (e : ErrKind) (s : State) : (errorEntry op e s).source = s.source := rfl
@[simp] theorem errorEntry_sink (op : Byte) (e : ErrKind) (s : State) : (errorEntry op e s).sink = s.sink := rfl
@[simp] theorem errorEntry_out (op : Byte) (e : ErrKind) (s : State) : (errorEntry op e s).out = s.out := rfl
@[simp] theorem errorEntry_inflater (op : Byte) (e : ErrKind) (s : State) : (errorEntry op e s).inflater = s.inflater := rfl
@[simp] theorem errorEntry_deflater (op : Byte) (e : ErrKind) (s : State) : (errorEntry op e s).deflater = s.deflater := rfl
@[simp] theorem errorEntry_powerCycles (op : Byte) (e : ErrKind) (s : State) : (errorEntry op e s).powerCycles = s.powerCycles := rfl

/-! ## setCrcAcc -/

@[simp] theorem setCrcAcc_regs (v : Word) (s : State) : (setCrcAcc v s).regs = { s.regs with crcAcc := v } := rfl
@[simp] theorem setCrcAcc_slb (v : Word) (s : State) : (setCrcAcc v s).slb = s.slb := rfl
@[simp] theorem setCrcAcc_pix (v : Word) (s : State) : (setCrcAcc v s).pix = s.pix := rfl
@[simp] theorem setCrcAcc_csb (v : Word) (s : State) : (setCrcAcc v s).csb = s.csb := rfl
@[simp] theorem setCrcAcc_frZst (v : Word) (s : State) : (setCrcAcc v s).frZst = s.frZst := rfl
@[simp] theorem setCrcAcc_session (v : Word) (s : State) : (setCrcAcc v s).session = s.session := rfl
@[simp] theorem setCrcAcc_running (v : Word) (s : State) : (setCrcAcc v s).running = s.running := rfl
@[simp] theorem setCrcAcc_hung (v : Word) (s : State) : (setCrcAcc v s).hung = s.hung := rfl
@[simp] theorem setCrcAcc_params (v : Word) (s : State) : (setCrcAcc v s).params = s.params := rfl
@[simp] theorem setCrcAcc_host (v : Word) (s : State) : (setCrcAcc v s).host = s.host := rfl
@[simp] theorem setCrcAcc_reply (v : Word) (s : State) : (setCrcAcc v s).reply = s.reply := rfl
@[simp] theorem setCrcAcc_source (v : Word) (s : State) : (setCrcAcc v s).source = s.source := rfl
@[simp] theorem setCrcAcc_sink (v : Word) (s : State) : (setCrcAcc v s).sink = s.sink := rfl
@[simp] theorem setCrcAcc_out (v : Word) (s : State) : (setCrcAcc v s).out = s.out := rfl
@[simp] theorem setCrcAcc_inflater (v : Word) (s : State) : (setCrcAcc v s).inflater = s.inflater := rfl
@[simp] theorem setCrcAcc_deflater (v : Word) (s : State) : (setCrcAcc v s).deflater = s.deflater := rfl
@[simp] theorem setCrcAcc_powerCycles (v : Word) (s : State) : (setCrcAcc v s).powerCycles = s.powerCycles := rfl

/-! ## setUfRow -/

@[simp] theorem setUfRow_regs (v : Word) (s : State) : (setUfRow v s).regs = { s.regs with ufRow := v } := rfl
@[simp] theorem setUfRow_slb (v : Word) (s : State) : (setUfRow v s).slb = s.slb := rfl
@[simp] theorem setUfRow_pix (v : Word) (s : State) : (setUfRow v s).pix = s.pix := rfl
@[simp] theorem setUfRow_csb (v : Word) (s : State) : (setUfRow v s).csb = s.csb := rfl
@[simp] theorem setUfRow_frZst (v : Word) (s : State) : (setUfRow v s).frZst = s.frZst := rfl
@[simp] theorem setUfRow_session (v : Word) (s : State) : (setUfRow v s).session = s.session := rfl
@[simp] theorem setUfRow_running (v : Word) (s : State) : (setUfRow v s).running = s.running := rfl
@[simp] theorem setUfRow_hung (v : Word) (s : State) : (setUfRow v s).hung = s.hung := rfl
@[simp] theorem setUfRow_params (v : Word) (s : State) : (setUfRow v s).params = s.params := rfl
@[simp] theorem setUfRow_host (v : Word) (s : State) : (setUfRow v s).host = s.host := rfl
@[simp] theorem setUfRow_reply (v : Word) (s : State) : (setUfRow v s).reply = s.reply := rfl
@[simp] theorem setUfRow_source (v : Word) (s : State) : (setUfRow v s).source = s.source := rfl
@[simp] theorem setUfRow_sink (v : Word) (s : State) : (setUfRow v s).sink = s.sink := rfl
@[simp] theorem setUfRow_out (v : Word) (s : State) : (setUfRow v s).out = s.out := rfl
@[simp] theorem setUfRow_inflater (v : Word) (s : State) : (setUfRow v s).inflater = s.inflater := rfl
@[simp] theorem setUfRow_deflater (v : Word) (s : State) : (setUfRow v s).deflater = s.deflater := rfl
@[simp] theorem setUfRow_powerCycles (v : Word) (s : State) : (setUfRow v s).powerCycles = s.powerCycles := rfl

/-! ## setUpRow -/

@[simp] theorem setUpRow_regs (v : Word) (s : State) : (setUpRow v s).regs = { s.regs with upRow := v } := rfl
@[simp] theorem setUpRow_slb (v : Word) (s : State) : (setUpRow v s).slb = s.slb := rfl
@[simp] theorem setUpRow_pix (v : Word) (s : State) : (setUpRow v s).pix = s.pix := rfl
@[simp] theorem setUpRow_csb (v : Word) (s : State) : (setUpRow v s).csb = s.csb := rfl
@[simp] theorem setUpRow_frZst (v : Word) (s : State) : (setUpRow v s).frZst = s.frZst := rfl
@[simp] theorem setUpRow_session (v : Word) (s : State) : (setUpRow v s).session = s.session := rfl
@[simp] theorem setUpRow_running (v : Word) (s : State) : (setUpRow v s).running = s.running := rfl
@[simp] theorem setUpRow_hung (v : Word) (s : State) : (setUpRow v s).hung = s.hung := rfl
@[simp] theorem setUpRow_params (v : Word) (s : State) : (setUpRow v s).params = s.params := rfl
@[simp] theorem setUpRow_host (v : Word) (s : State) : (setUpRow v s).host = s.host := rfl
@[simp] theorem setUpRow_reply (v : Word) (s : State) : (setUpRow v s).reply = s.reply := rfl
@[simp] theorem setUpRow_source (v : Word) (s : State) : (setUpRow v s).source = s.source := rfl
@[simp] theorem setUpRow_sink (v : Word) (s : State) : (setUpRow v s).sink = s.sink := rfl
@[simp] theorem setUpRow_out (v : Word) (s : State) : (setUpRow v s).out = s.out := rfl
@[simp] theorem setUpRow_inflater (v : Word) (s : State) : (setUpRow v s).inflater = s.inflater := rfl
@[simp] theorem setUpRow_deflater (v : Word) (s : State) : (setUpRow v s).deflater = s.deflater := rfl
@[simp] theorem setUpRow_powerCycles (v : Word) (s : State) : (setUpRow v s).powerCycles = s.powerCycles := rfl

/-! ## setPkRow -/

@[simp] theorem setPkRow_regs (v : Word) (s : State) : (setPkRow v s).regs = { s.regs with pkRow := v } := rfl
@[simp] theorem setPkRow_slb (v : Word) (s : State) : (setPkRow v s).slb = s.slb := rfl
@[simp] theorem setPkRow_pix (v : Word) (s : State) : (setPkRow v s).pix = s.pix := rfl
@[simp] theorem setPkRow_csb (v : Word) (s : State) : (setPkRow v s).csb = s.csb := rfl
@[simp] theorem setPkRow_frZst (v : Word) (s : State) : (setPkRow v s).frZst = s.frZst := rfl
@[simp] theorem setPkRow_session (v : Word) (s : State) : (setPkRow v s).session = s.session := rfl
@[simp] theorem setPkRow_running (v : Word) (s : State) : (setPkRow v s).running = s.running := rfl
@[simp] theorem setPkRow_hung (v : Word) (s : State) : (setPkRow v s).hung = s.hung := rfl
@[simp] theorem setPkRow_params (v : Word) (s : State) : (setPkRow v s).params = s.params := rfl
@[simp] theorem setPkRow_host (v : Word) (s : State) : (setPkRow v s).host = s.host := rfl
@[simp] theorem setPkRow_reply (v : Word) (s : State) : (setPkRow v s).reply = s.reply := rfl
@[simp] theorem setPkRow_source (v : Word) (s : State) : (setPkRow v s).source = s.source := rfl
@[simp] theorem setPkRow_sink (v : Word) (s : State) : (setPkRow v s).sink = s.sink := rfl
@[simp] theorem setPkRow_out (v : Word) (s : State) : (setPkRow v s).out = s.out := rfl
@[simp] theorem setPkRow_inflater (v : Word) (s : State) : (setPkRow v s).inflater = s.inflater := rfl
@[simp] theorem setPkRow_deflater (v : Word) (s : State) : (setPkRow v s).deflater = s.deflater := rfl
@[simp] theorem setPkRow_powerCycles (v : Word) (s : State) : (setPkRow v s).powerCycles = s.powerCycles := rfl

/-! ## setFeLeft -/

@[simp] theorem setFeLeft_regs (v : Word) (s : State) : (setFeLeft v s).regs = { s.regs with feLeft := v } := rfl
@[simp] theorem setFeLeft_slb (v : Word) (s : State) : (setFeLeft v s).slb = s.slb := rfl
@[simp] theorem setFeLeft_pix (v : Word) (s : State) : (setFeLeft v s).pix = s.pix := rfl
@[simp] theorem setFeLeft_csb (v : Word) (s : State) : (setFeLeft v s).csb = s.csb := rfl
@[simp] theorem setFeLeft_frZst (v : Word) (s : State) : (setFeLeft v s).frZst = s.frZst := rfl
@[simp] theorem setFeLeft_session (v : Word) (s : State) : (setFeLeft v s).session = s.session := rfl
@[simp] theorem setFeLeft_running (v : Word) (s : State) : (setFeLeft v s).running = s.running := rfl
@[simp] theorem setFeLeft_hung (v : Word) (s : State) : (setFeLeft v s).hung = s.hung := rfl
@[simp] theorem setFeLeft_params (v : Word) (s : State) : (setFeLeft v s).params = s.params := rfl
@[simp] theorem setFeLeft_host (v : Word) (s : State) : (setFeLeft v s).host = s.host := rfl
@[simp] theorem setFeLeft_reply (v : Word) (s : State) : (setFeLeft v s).reply = s.reply := rfl
@[simp] theorem setFeLeft_source (v : Word) (s : State) : (setFeLeft v s).source = s.source := rfl
@[simp] theorem setFeLeft_sink (v : Word) (s : State) : (setFeLeft v s).sink = s.sink := rfl
@[simp] theorem setFeLeft_out (v : Word) (s : State) : (setFeLeft v s).out = s.out := rfl
@[simp] theorem setFeLeft_inflater (v : Word) (s : State) : (setFeLeft v s).inflater = s.inflater := rfl
@[simp] theorem setFeLeft_deflater (v : Word) (s : State) : (setFeLeft v s).deflater = s.deflater := rfl
@[simp] theorem setFeLeft_powerCycles (v : Word) (s : State) : (setFeLeft v s).powerCycles = s.powerCycles := rfl

/-! ## setFrOut -/

@[simp] theorem setFrOut_regs (v : Word) (s : State) : (setFrOut v s).regs = { s.regs with frOut := v } := rfl
@[simp] theorem setFrOut_slb (v : Word) (s : State) : (setFrOut v s).slb = s.slb := rfl
@[simp] theorem setFrOut_pix (v : Word) (s : State) : (setFrOut v s).pix = s.pix := rfl
@[simp] theorem setFrOut_csb (v : Word) (s : State) : (setFrOut v s).csb = s.csb := rfl
@[simp] theorem setFrOut_frZst (v : Word) (s : State) : (setFrOut v s).frZst = s.frZst := rfl
@[simp] theorem setFrOut_session (v : Word) (s : State) : (setFrOut v s).session = s.session := rfl
@[simp] theorem setFrOut_running (v : Word) (s : State) : (setFrOut v s).running = s.running := rfl
@[simp] theorem setFrOut_hung (v : Word) (s : State) : (setFrOut v s).hung = s.hung := rfl
@[simp] theorem setFrOut_params (v : Word) (s : State) : (setFrOut v s).params = s.params := rfl
@[simp] theorem setFrOut_host (v : Word) (s : State) : (setFrOut v s).host = s.host := rfl
@[simp] theorem setFrOut_reply (v : Word) (s : State) : (setFrOut v s).reply = s.reply := rfl
@[simp] theorem setFrOut_source (v : Word) (s : State) : (setFrOut v s).source = s.source := rfl
@[simp] theorem setFrOut_sink (v : Word) (s : State) : (setFrOut v s).sink = s.sink := rfl
@[simp] theorem setFrOut_out (v : Word) (s : State) : (setFrOut v s).out = s.out := rfl
@[simp] theorem setFrOut_inflater (v : Word) (s : State) : (setFrOut v s).inflater = s.inflater := rfl
@[simp] theorem setFrOut_deflater (v : Word) (s : State) : (setFrOut v s).deflater = s.deflater := rfl
@[simp] theorem setFrOut_powerCycles (v : Word) (s : State) : (setFrOut v s).powerCycles = s.powerCycles := rfl

/-! ## setIdatCount -/

@[simp] theorem setIdatCount_regs (v : Word) (s : State) : (setIdatCount v s).regs = { s.regs with idatCount := v } := rfl
@[simp] theorem setIdatCount_slb (v : Word) (s : State) : (setIdatCount v s).slb = s.slb := rfl
@[simp] theorem setIdatCount_pix (v : Word) (s : State) : (setIdatCount v s).pix = s.pix := rfl
@[simp] theorem setIdatCount_csb (v : Word) (s : State) : (setIdatCount v s).csb = s.csb := rfl
@[simp] theorem setIdatCount_frZst (v : Word) (s : State) : (setIdatCount v s).frZst = s.frZst := rfl
@[simp] theorem setIdatCount_session (v : Word) (s : State) : (setIdatCount v s).session = s.session := rfl
@[simp] theorem setIdatCount_running (v : Word) (s : State) : (setIdatCount v s).running = s.running := rfl
@[simp] theorem setIdatCount_hung (v : Word) (s : State) : (setIdatCount v s).hung = s.hung := rfl
@[simp] theorem setIdatCount_params (v : Word) (s : State) : (setIdatCount v s).params = s.params := rfl
@[simp] theorem setIdatCount_host (v : Word) (s : State) : (setIdatCount v s).host = s.host := rfl
@[simp] theorem setIdatCount_reply (v : Word) (s : State) : (setIdatCount v s).reply = s.reply := rfl
@[simp] theorem setIdatCount_source (v : Word) (s : State) : (setIdatCount v s).source = s.source := rfl
@[simp] theorem setIdatCount_sink (v : Word) (s : State) : (setIdatCount v s).sink = s.sink := rfl
@[simp] theorem setIdatCount_out (v : Word) (s : State) : (setIdatCount v s).out = s.out := rfl
@[simp] theorem setIdatCount_inflater (v : Word) (s : State) : (setIdatCount v s).inflater = s.inflater := rfl
@[simp] theorem setIdatCount_deflater (v : Word) (s : State) : (setIdatCount v s).deflater = s.deflater := rfl
@[simp] theorem setIdatCount_powerCycles (v : Word) (s : State) : (setIdatCount v s).powerCycles = s.powerCycles := rfl

/-! ## loadCrcs -/

@[simp] theorem loadCrcs_regs (x v : Word) (s : State) : (loadCrcs x v s).regs = { s.regs with crcExpect := x, crcAcc := v } := rfl
@[simp] theorem loadCrcs_slb (x v : Word) (s : State) : (loadCrcs x v s).slb = s.slb := rfl
@[simp] theorem loadCrcs_pix (x v : Word) (s : State) : (loadCrcs x v s).pix = s.pix := rfl
@[simp] theorem loadCrcs_csb (x v : Word) (s : State) : (loadCrcs x v s).csb = s.csb := rfl
@[simp] theorem loadCrcs_frZst (x v : Word) (s : State) : (loadCrcs x v s).frZst = s.frZst := rfl
@[simp] theorem loadCrcs_session (x v : Word) (s : State) : (loadCrcs x v s).session = s.session := rfl
@[simp] theorem loadCrcs_running (x v : Word) (s : State) : (loadCrcs x v s).running = s.running := rfl
@[simp] theorem loadCrcs_hung (x v : Word) (s : State) : (loadCrcs x v s).hung = s.hung := rfl
@[simp] theorem loadCrcs_params (x v : Word) (s : State) : (loadCrcs x v s).params = s.params := rfl
@[simp] theorem loadCrcs_host (x v : Word) (s : State) : (loadCrcs x v s).host = s.host := rfl
@[simp] theorem loadCrcs_reply (x v : Word) (s : State) : (loadCrcs x v s).reply = s.reply := rfl
@[simp] theorem loadCrcs_source (x v : Word) (s : State) : (loadCrcs x v s).source = s.source := rfl
@[simp] theorem loadCrcs_sink (x v : Word) (s : State) : (loadCrcs x v s).sink = s.sink := rfl
@[simp] theorem loadCrcs_out (x v : Word) (s : State) : (loadCrcs x v s).out = s.out := rfl
@[simp] theorem loadCrcs_inflater (x v : Word) (s : State) : (loadCrcs x v s).inflater = s.inflater := rfl
@[simp] theorem loadCrcs_deflater (x v : Word) (s : State) : (loadCrcs x v s).deflater = s.deflater := rfl
@[simp] theorem loadCrcs_powerCycles (x v : Word) (s : State) : (loadCrcs x v s).powerCycles = s.powerCycles := rfl

/-! ## setChunk -/

@[simp] theorem setChunk_regs (len ty : Word) (s : State) : (setChunk len ty s).regs = { s.regs with chunkLen := len, chunkType := ty } := rfl
@[simp] theorem setChunk_slb (len ty : Word) (s : State) : (setChunk len ty s).slb = s.slb := rfl
@[simp] theorem setChunk_pix (len ty : Word) (s : State) : (setChunk len ty s).pix = s.pix := rfl
@[simp] theorem setChunk_csb (len ty : Word) (s : State) : (setChunk len ty s).csb = s.csb := rfl
@[simp] theorem setChunk_frZst (len ty : Word) (s : State) : (setChunk len ty s).frZst = s.frZst := rfl
@[simp] theorem setChunk_session (len ty : Word) (s : State) : (setChunk len ty s).session = s.session := rfl
@[simp] theorem setChunk_running (len ty : Word) (s : State) : (setChunk len ty s).running = s.running := rfl
@[simp] theorem setChunk_hung (len ty : Word) (s : State) : (setChunk len ty s).hung = s.hung := rfl
@[simp] theorem setChunk_params (len ty : Word) (s : State) : (setChunk len ty s).params = s.params := rfl
@[simp] theorem setChunk_host (len ty : Word) (s : State) : (setChunk len ty s).host = s.host := rfl
@[simp] theorem setChunk_reply (len ty : Word) (s : State) : (setChunk len ty s).reply = s.reply := rfl
@[simp] theorem setChunk_source (len ty : Word) (s : State) : (setChunk len ty s).source = s.source := rfl
@[simp] theorem setChunk_sink (len ty : Word) (s : State) : (setChunk len ty s).sink = s.sink := rfl
@[simp] theorem setChunk_out (len ty : Word) (s : State) : (setChunk len ty s).out = s.out := rfl
@[simp] theorem setChunk_inflater (len ty : Word) (s : State) : (setChunk len ty s).inflater = s.inflater := rfl
@[simp] theorem setChunk_deflater (len ty : Word) (s : State) : (setChunk len ty s).deflater = s.deflater := rfl
@[simp] theorem setChunk_powerCycles (len ty : Word) (s : State) : (setChunk len ty s).powerCycles = s.powerCycles := rfl

/-! ## received -/

@[simp] theorem received_regs (s : State) (src : Source) (n : Nat) : (received s src n).regs = { s.regs with inPos := s.regs.inPos + BitVec.ofNat 32 n } := rfl
@[simp] theorem received_slb (s : State) (src : Source) (n : Nat) : (received s src n).slb = s.slb := rfl
@[simp] theorem received_pix (s : State) (src : Source) (n : Nat) : (received s src n).pix = s.pix := rfl
@[simp] theorem received_csb (s : State) (src : Source) (n : Nat) : (received s src n).csb = s.csb := rfl
@[simp] theorem received_frZst (s : State) (src : Source) (n : Nat) : (received s src n).frZst = s.frZst := rfl
@[simp] theorem received_session (s : State) (src : Source) (n : Nat) : (received s src n).session = s.session := rfl
@[simp] theorem received_running (s : State) (src : Source) (n : Nat) : (received s src n).running = s.running := rfl
@[simp] theorem received_hung (s : State) (src : Source) (n : Nat) : (received s src n).hung = s.hung := rfl
@[simp] theorem received_params (s : State) (src : Source) (n : Nat) : (received s src n).params = s.params := rfl
@[simp] theorem received_host (s : State) (src : Source) (n : Nat) : (received s src n).host = s.host := rfl
@[simp] theorem received_reply (s : State) (src : Source) (n : Nat) : (received s src n).reply = s.reply := rfl
@[simp] theorem received_source (s : State) (src : Source) (n : Nat) : (received s src n).source = src := rfl
@[simp] theorem received_sink (s : State) (src : Source) (n : Nat) : (received s src n).sink = s.sink := rfl
@[simp] theorem received_out (s : State) (src : Source) (n : Nat) : (received s src n).out = s.out := rfl
@[simp] theorem received_inflater (s : State) (src : Source) (n : Nat) : (received s src n).inflater = s.inflater := rfl
@[simp] theorem received_deflater (s : State) (src : Source) (n : Nat) : (received s src n).deflater = s.deflater := rfl
@[simp] theorem received_powerCycles (s : State) (src : Source) (n : Nat) : (received s src n).powerCycles = s.powerCycles := rfl

/-! ## sent -/

@[simp] theorem sent_regs (s : State) (bytes : List Byte) (k : Nat) : (sent s bytes k).regs = { s.regs with outPos := s.regs.outPos + BitVec.ofNat 32 k } := rfl
@[simp] theorem sent_slb (s : State) (bytes : List Byte) (k : Nat) : (sent s bytes k).slb = s.slb := rfl
@[simp] theorem sent_pix (s : State) (bytes : List Byte) (k : Nat) : (sent s bytes k).pix = s.pix := rfl
@[simp] theorem sent_csb (s : State) (bytes : List Byte) (k : Nat) : (sent s bytes k).csb = s.csb := rfl
@[simp] theorem sent_frZst (s : State) (bytes : List Byte) (k : Nat) : (sent s bytes k).frZst = s.frZst := rfl
@[simp] theorem sent_session (s : State) (bytes : List Byte) (k : Nat) : (sent s bytes k).session = s.session := rfl
@[simp] theorem sent_running (s : State) (bytes : List Byte) (k : Nat) : (sent s bytes k).running = s.running := rfl
@[simp] theorem sent_hung (s : State) (bytes : List Byte) (k : Nat) : (sent s bytes k).hung = s.hung := rfl
@[simp] theorem sent_params (s : State) (bytes : List Byte) (k : Nat) : (sent s bytes k).params = s.params := rfl
@[simp] theorem sent_host (s : State) (bytes : List Byte) (k : Nat) : (sent s bytes k).host = s.host := rfl
@[simp] theorem sent_reply (s : State) (bytes : List Byte) (k : Nat) : (sent s bytes k).reply = s.reply := rfl
@[simp] theorem sent_source (s : State) (bytes : List Byte) (k : Nat) : (sent s bytes k).source = s.source := rfl
@[simp] theorem sent_sink (s : State) (bytes : List Byte) (k : Nat) : (sent s bytes k).sink = ⟨s.sink.script.tail, s.sink.drawn + 1⟩ := rfl
@[simp] theorem sent_out (s : State) (bytes : List Byte) (k : Nat) : (sent s bytes k).out = s.out ++ bytes.take k := rfl
@[simp] theorem sent_inflater (s : State) (bytes : List Byte) (k : Nat) : (sent s bytes k).inflater = s.inflater := rfl
@[simp] theorem sent_deflater (s : State) (bytes : List Byte) (k : Nat) : (sent s bytes k).deflater = s.deflater := rfl
@[simp] theorem sent_powerCycles (s : State) (bytes : List Byte) (k : Nat) : (sent s bytes k).powerCycles = s.powerCycles := rfl

/-! ## inflateCalled -/

@[simp] theorem inflateCalled_regs (st : InflateStatus) (s : State) : (inflateCalled st s).regs = s.regs := rfl
@[simp] theorem inflateCalled_slb (st : InflateStatus) (s : State) : (inflateCalled st s).slb = s.slb := rfl
@[simp] theorem inflateCalled_pix (st : InflateStatus) (s : State) : (inflateCalled st s).pix = s.pix := rfl
@[simp] theorem inflateCalled_csb (st : InflateStatus) (s : State) : (inflateCalled st s).csb = s.csb := rfl
@[simp] theorem inflateCalled_frZst (st : InflateStatus) (s : State) : (inflateCalled st s).frZst = st := rfl
@[simp] theorem inflateCalled_session (st : InflateStatus) (s : State) : (inflateCalled st s).session = s.session := rfl
@[simp] theorem inflateCalled_running (st : InflateStatus) (s : State) : (inflateCalled st s).running = s.running := rfl
@[simp] theorem inflateCalled_hung (st : InflateStatus) (s : State) : (inflateCalled st s).hung = s.hung := rfl
@[simp] theorem inflateCalled_params (st : InflateStatus) (s : State) : (inflateCalled st s).params = s.params := rfl
@[simp] theorem inflateCalled_host (st : InflateStatus) (s : State) : (inflateCalled st s).host = s.host := rfl
@[simp] theorem inflateCalled_reply (st : InflateStatus) (s : State) : (inflateCalled st s).reply = s.reply := rfl
@[simp] theorem inflateCalled_source (st : InflateStatus) (s : State) : (inflateCalled st s).source = s.source := rfl
@[simp] theorem inflateCalled_sink (st : InflateStatus) (s : State) : (inflateCalled st s).sink = s.sink := rfl
@[simp] theorem inflateCalled_out (st : InflateStatus) (s : State) : (inflateCalled st s).out = s.out := rfl
@[simp] theorem inflateCalled_inflater (st : InflateStatus) (s : State) : (inflateCalled st s).inflater = { s.inflater with script := s.inflater.script.tail, drawn := s.inflater.drawn + 1 } := rfl
@[simp] theorem inflateCalled_deflater (st : InflateStatus) (s : State) : (inflateCalled st s).deflater = s.deflater := rfl
@[simp] theorem inflateCalled_powerCycles (st : InflateStatus) (s : State) : (inflateCalled st s).powerCycles = s.powerCycles := rfl

/-! ## deflateCalled -/

@[simp] theorem deflateCalled_regs (s : State) : (deflateCalled s).regs = s.regs := rfl
@[simp] theorem deflateCalled_slb (s : State) : (deflateCalled s).slb = s.slb := rfl
@[simp] theorem deflateCalled_pix (s : State) : (deflateCalled s).pix = s.pix := rfl
@[simp] theorem deflateCalled_csb (s : State) : (deflateCalled s).csb = s.csb := rfl
@[simp] theorem deflateCalled_frZst (s : State) : (deflateCalled s).frZst = s.frZst := rfl
@[simp] theorem deflateCalled_session (s : State) : (deflateCalled s).session = s.session := rfl
@[simp] theorem deflateCalled_running (s : State) : (deflateCalled s).running = s.running := rfl
@[simp] theorem deflateCalled_hung (s : State) : (deflateCalled s).hung = s.hung := rfl
@[simp] theorem deflateCalled_params (s : State) : (deflateCalled s).params = s.params := rfl
@[simp] theorem deflateCalled_host (s : State) : (deflateCalled s).host = s.host := rfl
@[simp] theorem deflateCalled_reply (s : State) : (deflateCalled s).reply = s.reply := rfl
@[simp] theorem deflateCalled_source (s : State) : (deflateCalled s).source = s.source := rfl
@[simp] theorem deflateCalled_sink (s : State) : (deflateCalled s).sink = s.sink := rfl
@[simp] theorem deflateCalled_out (s : State) : (deflateCalled s).out = s.out := rfl
@[simp] theorem deflateCalled_inflater (s : State) : (deflateCalled s).inflater = s.inflater := rfl
@[simp] theorem deflateCalled_deflater (s : State) : (deflateCalled s).deflater = ⟨s.deflater.script.tail, s.deflater.drawn + 1⟩ := rfl
@[simp] theorem deflateCalled_powerCycles (s : State) : (deflateCalled s).powerCycles = s.powerCycles := rfl

/-! ## commitConfiguration -/

@[simp] theorem commitConfiguration_regs (s : State) : (commitConfiguration s).regs = configureCommit s.regs := rfl
@[simp] theorem commitConfiguration_slb (s : State) : (commitConfiguration s).slb = s.slb := rfl
@[simp] theorem commitConfiguration_pix (s : State) : (commitConfiguration s).pix = s.pix := rfl
@[simp] theorem commitConfiguration_csb (s : State) : (commitConfiguration s).csb = s.csb := rfl
@[simp] theorem commitConfiguration_frZst (s : State) : (commitConfiguration s).frZst = .more := rfl
@[simp] theorem commitConfiguration_session (s : State) : (commitConfiguration s).session = none := rfl
@[simp] theorem commitConfiguration_running (s : State) : (commitConfiguration s).running = s.running := rfl
@[simp] theorem commitConfiguration_hung (s : State) : (commitConfiguration s).hung = s.hung := rfl
@[simp] theorem commitConfiguration_params (s : State) : (commitConfiguration s).params = s.params := rfl
@[simp] theorem commitConfiguration_host (s : State) : (commitConfiguration s).host = s.host := rfl
@[simp] theorem commitConfiguration_reply (s : State) : (commitConfiguration s).reply = s.reply := rfl
@[simp] theorem commitConfiguration_source (s : State) : (commitConfiguration s).source = s.source := rfl
@[simp] theorem commitConfiguration_sink (s : State) : (commitConfiguration s).sink = s.sink := rfl
@[simp] theorem commitConfiguration_out (s : State) : (commitConfiguration s).out = s.out := rfl
@[simp] theorem commitConfiguration_inflater (s : State) : (commitConfiguration s).inflater = s.inflater := rfl
@[simp] theorem commitConfiguration_deflater (s : State) : (commitConfiguration s).deflater = s.deflater := rfl
@[simp] theorem commitConfiguration_powerCycles (s : State) : (commitConfiguration s).powerCycles = s.powerCycles := rfl

/-! ## beginRun -/

@[simp] theorem beginRun_regs (s : State) : (beginRun s).regs = { s.regs with frOut := 0#32, idatCount := 0#32 } := rfl
@[simp] theorem beginRun_slb (s : State) : (beginRun s).slb = s.slb := rfl
@[simp] theorem beginRun_pix (s : State) : (beginRun s).pix = s.pix := rfl
@[simp] theorem beginRun_csb (s : State) : (beginRun s).csb = s.csb := rfl
@[simp] theorem beginRun_frZst (s : State) : (beginRun s).frZst = .more := rfl
@[simp] theorem beginRun_session (s : State) : (beginRun s).session = some s.inflater.opened := rfl
@[simp] theorem beginRun_running (s : State) : (beginRun s).running = true := rfl
@[simp] theorem beginRun_hung (s : State) : (beginRun s).hung = s.hung := rfl
@[simp] theorem beginRun_params (s : State) : (beginRun s).params = s.params := rfl
@[simp] theorem beginRun_host (s : State) : (beginRun s).host = s.host := rfl
@[simp] theorem beginRun_reply (s : State) : (beginRun s).reply = s.reply := rfl
@[simp] theorem beginRun_source (s : State) : (beginRun s).source = s.source := rfl
@[simp] theorem beginRun_sink (s : State) : (beginRun s).sink = s.sink := rfl
@[simp] theorem beginRun_out (s : State) : (beginRun s).out = s.out := rfl
@[simp] theorem beginRun_inflater (s : State) : (beginRun s).inflater = { s.inflater with opened := s.inflater.opened + 1 } := rfl
@[simp] theorem beginRun_deflater (s : State) : (beginRun s).deflater = s.deflater := rfl
@[simp] theorem beginRun_powerCycles (s : State) : (beginRun s).powerCycles = s.powerCycles := rfl

/-! ## finishRun -/

@[simp] theorem finishRun_regs (s : State) : (finishRun s).regs = { s.regs with status := { s.regs.status with frState := .done } } := rfl
@[simp] theorem finishRun_slb (s : State) : (finishRun s).slb = s.slb := rfl
@[simp] theorem finishRun_pix (s : State) : (finishRun s).pix = s.pix := rfl
@[simp] theorem finishRun_csb (s : State) : (finishRun s).csb = s.csb := rfl
@[simp] theorem finishRun_frZst (s : State) : (finishRun s).frZst = s.frZst := rfl
@[simp] theorem finishRun_session (s : State) : (finishRun s).session = s.session := rfl
@[simp] theorem finishRun_running (s : State) : (finishRun s).running = false := rfl
@[simp] theorem finishRun_hung (s : State) : (finishRun s).hung = s.hung := rfl
@[simp] theorem finishRun_params (s : State) : (finishRun s).params = s.params := rfl
@[simp] theorem finishRun_host (s : State) : (finishRun s).host = s.host := rfl
@[simp] theorem finishRun_reply (s : State) : (finishRun s).reply = s.reply := rfl
@[simp] theorem finishRun_source (s : State) : (finishRun s).source = s.source := rfl
@[simp] theorem finishRun_sink (s : State) : (finishRun s).sink = s.sink := rfl
@[simp] theorem finishRun_out (s : State) : (finishRun s).out = s.out := rfl
@[simp] theorem finishRun_inflater (s : State) : (finishRun s).inflater = s.inflater := rfl
@[simp] theorem finishRun_deflater (s : State) : (finishRun s).deflater = s.deflater := rfl
@[simp] theorem finishRun_powerCycles (s : State) : (finishRun s).powerCycles = s.powerCycles := rfl

/-! ## failRun -/

@[simp] theorem failRun_regs (e : ErrKind) (s : State) : (failRun e s).regs = { s.regs with status := statusError 0x24#8 e { s.regs.status with frState := .failed } } := rfl
@[simp] theorem failRun_slb (e : ErrKind) (s : State) : (failRun e s).slb = s.slb := rfl
@[simp] theorem failRun_pix (e : ErrKind) (s : State) : (failRun e s).pix = s.pix := rfl
@[simp] theorem failRun_csb (e : ErrKind) (s : State) : (failRun e s).csb = s.csb := rfl
@[simp] theorem failRun_frZst (e : ErrKind) (s : State) : (failRun e s).frZst = s.frZst := rfl
@[simp] theorem failRun_session (e : ErrKind) (s : State) : (failRun e s).session = s.session := rfl
@[simp] theorem failRun_running (e : ErrKind) (s : State) : (failRun e s).running = false := rfl
@[simp] theorem failRun_hung (e : ErrKind) (s : State) : (failRun e s).hung = s.hung := rfl
@[simp] theorem failRun_params (e : ErrKind) (s : State) : (failRun e s).params = s.params := rfl
@[simp] theorem failRun_host (e : ErrKind) (s : State) : (failRun e s).host = s.host := rfl
@[simp] theorem failRun_reply (e : ErrKind) (s : State) : (failRun e s).reply = s.reply := rfl
@[simp] theorem failRun_source (e : ErrKind) (s : State) : (failRun e s).source = s.source := rfl
@[simp] theorem failRun_sink (e : ErrKind) (s : State) : (failRun e s).sink = s.sink := rfl
@[simp] theorem failRun_out (e : ErrKind) (s : State) : (failRun e s).out = s.out := rfl
@[simp] theorem failRun_inflater (e : ErrKind) (s : State) : (failRun e s).inflater = s.inflater := rfl
@[simp] theorem failRun_deflater (e : ErrKind) (s : State) : (failRun e s).deflater = s.deflater := rfl
@[simp] theorem failRun_powerCycles (e : ErrKind) (s : State) : (failRun e s).powerCycles = s.powerCycles := rfl

/-! ## errorState -/

@[simp] theorem errorState_regs (op c : Byte) (s : State) : (errorState op c s).regs = { s.regs with status := { s.regs.status with err := true, errCode := c, errOp := op } } := rfl
@[simp] theorem errorState_slb (op c : Byte) (s : State) : (errorState op c s).slb = s.slb := rfl
@[simp] theorem errorState_pix (op c : Byte) (s : State) : (errorState op c s).pix = s.pix := rfl
@[simp] theorem errorState_csb (op c : Byte) (s : State) : (errorState op c s).csb = s.csb := rfl
@[simp] theorem errorState_frZst (op c : Byte) (s : State) : (errorState op c s).frZst = s.frZst := rfl
@[simp] theorem errorState_session (op c : Byte) (s : State) : (errorState op c s).session = s.session := rfl
@[simp] theorem errorState_running (op c : Byte) (s : State) : (errorState op c s).running = s.running := rfl
@[simp] theorem errorState_hung (op c : Byte) (s : State) : (errorState op c s).hung = s.hung := rfl
@[simp] theorem errorState_params (op c : Byte) (s : State) : (errorState op c s).params = s.params := rfl
@[simp] theorem errorState_host (op c : Byte) (s : State) : (errorState op c s).host = s.host := rfl
@[simp] theorem errorState_reply (op c : Byte) (s : State) : (errorState op c s).reply = s.reply := rfl
@[simp] theorem errorState_source (op c : Byte) (s : State) : (errorState op c s).source = s.source := rfl
@[simp] theorem errorState_sink (op c : Byte) (s : State) : (errorState op c s).sink = s.sink := rfl
@[simp] theorem errorState_out (op c : Byte) (s : State) : (errorState op c s).out = s.out := rfl
@[simp] theorem errorState_inflater (op c : Byte) (s : State) : (errorState op c s).inflater = s.inflater := rfl
@[simp] theorem errorState_deflater (op c : Byte) (s : State) : (errorState op c s).deflater = s.deflater := rfl
@[simp] theorem errorState_powerCycles (op c : Byte) (s : State) : (errorState op c s).powerCycles = s.powerCycles := rfl

/-! ## softReset -/

@[simp] theorem softReset_regs (s : State) : (softReset s).regs = Regs.reset := rfl
@[simp] theorem softReset_slb (s : State) : (softReset s).slb = s.slb := rfl
@[simp] theorem softReset_pix (s : State) : (softReset s).pix = s.pix := rfl
@[simp] theorem softReset_csb (s : State) : (softReset s).csb = s.csb := rfl
@[simp] theorem softReset_frZst (s : State) : (softReset s).frZst = .more := rfl
@[simp] theorem softReset_session (s : State) : (softReset s).session = none := rfl
@[simp] theorem softReset_running (s : State) : (softReset s).running = false := rfl
@[simp] theorem softReset_hung (s : State) : (softReset s).hung = none := rfl
@[simp] theorem softReset_params (s : State) : (softReset s).params = s.params := rfl
@[simp] theorem softReset_host (s : State) : (softReset s).host = s.host := rfl
@[simp] theorem softReset_reply (s : State) : (softReset s).reply = s.reply := rfl
@[simp] theorem softReset_source (s : State) : (softReset s).source = s.source := rfl
@[simp] theorem softReset_sink (s : State) : (softReset s).sink = s.sink := rfl
@[simp] theorem softReset_out (s : State) : (softReset s).out = s.out := rfl
@[simp] theorem softReset_inflater (s : State) : (softReset s).inflater = s.inflater := rfl
@[simp] theorem softReset_deflater (s : State) : (softReset s).deflater = s.deflater := rfl
@[simp] theorem softReset_powerCycles (s : State) : (softReset s).powerCycles = s.powerCycles := rfl

/-! ## powerOnReset -/

/-- With no read waiting, power-on leaves SOURCE as it is. -/
theorem abandonRead_of_answered {s : State} (h : s.hung ≠ some .source) : abandonRead s = s.source := if_neg h

/-- With no write waiting, power-on leaves SINK as it is. -/
theorem abandonWrite_of_answered {s : State} (h : s.hung ≠ some .sink) : abandonWrite s = s.sink := if_neg h

@[simp] theorem powerOnReset_regs (s : State) : (powerOnReset s).regs = Regs.reset := rfl
@[simp] theorem powerOnReset_slb (s : State) : (powerOnReset s).slb = [] := rfl
@[simp] theorem powerOnReset_pix (s : State) : (powerOnReset s).pix = [] := rfl
@[simp] theorem powerOnReset_csb (s : State) : (powerOnReset s).csb = [] := rfl
@[simp] theorem powerOnReset_frZst (s : State) : (powerOnReset s).frZst = .more := rfl
@[simp] theorem powerOnReset_session (s : State) : (powerOnReset s).session = none := rfl
@[simp] theorem powerOnReset_running (s : State) : (powerOnReset s).running = false := rfl
@[simp] theorem powerOnReset_hung (s : State) : (powerOnReset s).hung = none := rfl
@[simp] theorem powerOnReset_params (s : State) : (powerOnReset s).params = s.params := rfl
@[simp] theorem powerOnReset_host (s : State) : (powerOnReset s).host = s.host := rfl
@[simp] theorem powerOnReset_reply (s : State) : (powerOnReset s).reply = s.reply := rfl
@[simp] theorem powerOnReset_source (s : State) : (powerOnReset s).source = abandonRead s := rfl
@[simp] theorem powerOnReset_sink (s : State) : (powerOnReset s).sink = abandonWrite s := rfl
@[simp] theorem powerOnReset_out (s : State) : (powerOnReset s).out = s.out := rfl
@[simp] theorem powerOnReset_inflater (s : State) : (powerOnReset s).inflater = s.inflater := rfl
@[simp] theorem powerOnReset_deflater (s : State) : (powerOnReset s).deflater = s.deflater := rfl
@[simp] theorem powerOnReset_powerCycles (s : State) : (powerOnReset s).powerCycles = s.powerCycles + 1 := rfl

/-! ## inflateOpen -/

@[simp] theorem inflateOpen_regs (s : State) : (inflateOpen s).regs = s.regs := rfl
@[simp] theorem inflateOpen_slb (s : State) : (inflateOpen s).slb = s.slb := rfl
@[simp] theorem inflateOpen_pix (s : State) : (inflateOpen s).pix = s.pix := rfl
@[simp] theorem inflateOpen_csb (s : State) : (inflateOpen s).csb = s.csb := rfl
@[simp] theorem inflateOpen_frZst (s : State) : (inflateOpen s).frZst = .more := rfl
@[simp] theorem inflateOpen_session (s : State) : (inflateOpen s).session = some s.inflater.opened := rfl
@[simp] theorem inflateOpen_running (s : State) : (inflateOpen s).running = s.running := rfl
@[simp] theorem inflateOpen_hung (s : State) : (inflateOpen s).hung = s.hung := rfl
@[simp] theorem inflateOpen_params (s : State) : (inflateOpen s).params = s.params := rfl
@[simp] theorem inflateOpen_host (s : State) : (inflateOpen s).host = s.host := rfl
@[simp] theorem inflateOpen_reply (s : State) : (inflateOpen s).reply = s.reply := rfl
@[simp] theorem inflateOpen_source (s : State) : (inflateOpen s).source = s.source := rfl
@[simp] theorem inflateOpen_sink (s : State) : (inflateOpen s).sink = s.sink := rfl
@[simp] theorem inflateOpen_out (s : State) : (inflateOpen s).out = s.out := rfl
@[simp] theorem inflateOpen_inflater (s : State) : (inflateOpen s).inflater = { s.inflater with opened := s.inflater.opened + 1 } := rfl
@[simp] theorem inflateOpen_deflater (s : State) : (inflateOpen s).deflater = s.deflater := rfl
@[simp] theorem inflateOpen_powerCycles (s : State) : (inflateOpen s).powerCycles = s.powerCycles := rfl

/-! ## hostRegRead -/

@[simp] theorem hostRegRead_regs (off : Nat) (s : State) : (hostRegRead off s).regs = s.regs := rfl
@[simp] theorem hostRegRead_slb (off : Nat) (s : State) : (hostRegRead off s).slb = s.slb := rfl
@[simp] theorem hostRegRead_pix (off : Nat) (s : State) : (hostRegRead off s).pix = s.pix := rfl
@[simp] theorem hostRegRead_csb (off : Nat) (s : State) : (hostRegRead off s).csb = s.csb := rfl
@[simp] theorem hostRegRead_frZst (off : Nat) (s : State) : (hostRegRead off s).frZst = s.frZst := rfl
@[simp] theorem hostRegRead_session (off : Nat) (s : State) : (hostRegRead off s).session = s.session := rfl
@[simp] theorem hostRegRead_running (off : Nat) (s : State) : (hostRegRead off s).running = s.running := rfl
@[simp] theorem hostRegRead_hung (off : Nat) (s : State) : (hostRegRead off s).hung = s.hung := rfl
@[simp] theorem hostRegRead_params (off : Nat) (s : State) : (hostRegRead off s).params = s.params := rfl
@[simp] theorem hostRegRead_host (off : Nat) (s : State) : (hostRegRead off s).host = s.host := rfl
@[simp] theorem hostRegRead_reply (off : Nat) (s : State) : (hostRegRead off s).reply = some ((regAt off).elim 0#32 (regRead s.regs)) := rfl
@[simp] theorem hostRegRead_source (off : Nat) (s : State) : (hostRegRead off s).source = s.source := rfl
@[simp] theorem hostRegRead_sink (off : Nat) (s : State) : (hostRegRead off s).sink = s.sink := rfl
@[simp] theorem hostRegRead_out (off : Nat) (s : State) : (hostRegRead off s).out = s.out := rfl
@[simp] theorem hostRegRead_inflater (off : Nat) (s : State) : (hostRegRead off s).inflater = s.inflater := rfl
@[simp] theorem hostRegRead_deflater (off : Nat) (s : State) : (hostRegRead off s).deflater = s.deflater := rfl
@[simp] theorem hostRegRead_powerCycles (off : Nat) (s : State) : (hostRegRead off s).powerCycles = s.powerCycles := rfl

/-! ## hostBufRead -/

@[simp] theorem hostBufRead_regs (sp : Space) (off : Nat) (s : State) : (hostBufRead sp off s).regs = s.regs := rfl
@[simp] theorem hostBufRead_slb (sp : Space) (off : Nat) (s : State) : (hostBufRead sp off s).slb = s.slb := rfl
@[simp] theorem hostBufRead_pix (sp : Space) (off : Nat) (s : State) : (hostBufRead sp off s).pix = s.pix := rfl
@[simp] theorem hostBufRead_csb (sp : Space) (off : Nat) (s : State) : (hostBufRead sp off s).csb = s.csb := rfl
@[simp] theorem hostBufRead_frZst (sp : Space) (off : Nat) (s : State) : (hostBufRead sp off s).frZst = s.frZst := rfl
@[simp] theorem hostBufRead_session (sp : Space) (off : Nat) (s : State) : (hostBufRead sp off s).session = s.session := rfl
@[simp] theorem hostBufRead_running (sp : Space) (off : Nat) (s : State) : (hostBufRead sp off s).running = s.running := rfl
@[simp] theorem hostBufRead_hung (sp : Space) (off : Nat) (s : State) : (hostBufRead sp off s).hung = s.hung := rfl
@[simp] theorem hostBufRead_params (sp : Space) (off : Nat) (s : State) : (hostBufRead sp off s).params = s.params := rfl
@[simp] theorem hostBufRead_host (sp : Space) (off : Nat) (s : State) : (hostBufRead sp off s).host = s.host := rfl
@[simp] theorem hostBufRead_reply (sp : Space) (off : Nat) (s : State) : (hostBufRead sp off s).reply = some ((readByte s sp off).setWidth 32) := rfl
@[simp] theorem hostBufRead_source (sp : Space) (off : Nat) (s : State) : (hostBufRead sp off s).source = s.source := rfl
@[simp] theorem hostBufRead_sink (sp : Space) (off : Nat) (s : State) : (hostBufRead sp off s).sink = s.sink := rfl
@[simp] theorem hostBufRead_out (sp : Space) (off : Nat) (s : State) : (hostBufRead sp off s).out = s.out := rfl
@[simp] theorem hostBufRead_inflater (sp : Space) (off : Nat) (s : State) : (hostBufRead sp off s).inflater = s.inflater := rfl
@[simp] theorem hostBufRead_deflater (sp : Space) (off : Nat) (s : State) : (hostBufRead sp off s).deflater = s.deflater := rfl
@[simp] theorem hostBufRead_powerCycles (sp : Space) (off : Nat) (s : State) : (hostBufRead sp off s).powerCycles = s.powerCycles := rfl

/-! ## queueCommandWord -/

@[simp] theorem queueCommandWord_regs (s : State) (w : Word) : (queueCommandWord s w).regs = s.regs := rfl
@[simp] theorem queueCommandWord_slb (s : State) (w : Word) : (queueCommandWord s w).slb = s.slb := rfl
@[simp] theorem queueCommandWord_pix (s : State) (w : Word) : (queueCommandWord s w).pix = s.pix := rfl
@[simp] theorem queueCommandWord_csb (s : State) (w : Word) : (queueCommandWord s w).csb = s.csb := rfl
@[simp] theorem queueCommandWord_frZst (s : State) (w : Word) : (queueCommandWord s w).frZst = s.frZst := rfl
@[simp] theorem queueCommandWord_session (s : State) (w : Word) : (queueCommandWord s w).session = s.session := rfl
@[simp] theorem queueCommandWord_running (s : State) (w : Word) : (queueCommandWord s w).running = false := rfl
@[simp] theorem queueCommandWord_hung (s : State) (w : Word) : (queueCommandWord s w).hung = none := rfl
@[simp] theorem queueCommandWord_params (s : State) (w : Word) : (queueCommandWord s w).params = s.params := rfl
@[simp] theorem queueCommandWord_host (s : State) (w : Word) : (queueCommandWord s w).host = .write cmdAddress .word w :: s.host := rfl
@[simp] theorem queueCommandWord_reply (s : State) (w : Word) : (queueCommandWord s w).reply = s.reply := rfl
@[simp] theorem queueCommandWord_source (s : State) (w : Word) : (queueCommandWord s w).source = s.source := rfl
@[simp] theorem queueCommandWord_sink (s : State) (w : Word) : (queueCommandWord s w).sink = s.sink := rfl
@[simp] theorem queueCommandWord_out (s : State) (w : Word) : (queueCommandWord s w).out = s.out := rfl
@[simp] theorem queueCommandWord_inflater (s : State) (w : Word) : (queueCommandWord s w).inflater = s.inflater := rfl
@[simp] theorem queueCommandWord_deflater (s : State) (w : Word) : (queueCommandWord s w).deflater = s.deflater := rfl
@[simp] theorem queueCommandWord_powerCycles (s : State) (w : Word) : (queueCommandWord s w).powerCycles = s.powerCycles := rfl

/-! ## setBuffer -/

@[simp] theorem setBuffer_regs (s : State) (sp : Space) (m : Memory) : (setBuffer s sp m).regs = s.regs := by cases sp <;> rfl
@[simp] theorem setBuffer_frZst (s : State) (sp : Space) (m : Memory) : (setBuffer s sp m).frZst = s.frZst := by cases sp <;> rfl
@[simp] theorem setBuffer_session (s : State) (sp : Space) (m : Memory) : (setBuffer s sp m).session = s.session := by cases sp <;> rfl
@[simp] theorem setBuffer_running (s : State) (sp : Space) (m : Memory) : (setBuffer s sp m).running = s.running := by cases sp <;> rfl
@[simp] theorem setBuffer_hung (s : State) (sp : Space) (m : Memory) : (setBuffer s sp m).hung = s.hung := by cases sp <;> rfl
@[simp] theorem setBuffer_params (s : State) (sp : Space) (m : Memory) : (setBuffer s sp m).params = s.params := by cases sp <;> rfl
@[simp] theorem setBuffer_host (s : State) (sp : Space) (m : Memory) : (setBuffer s sp m).host = s.host := by cases sp <;> rfl
@[simp] theorem setBuffer_reply (s : State) (sp : Space) (m : Memory) : (setBuffer s sp m).reply = s.reply := by cases sp <;> rfl
@[simp] theorem setBuffer_source (s : State) (sp : Space) (m : Memory) : (setBuffer s sp m).source = s.source := by cases sp <;> rfl
@[simp] theorem setBuffer_sink (s : State) (sp : Space) (m : Memory) : (setBuffer s sp m).sink = s.sink := by cases sp <;> rfl
@[simp] theorem setBuffer_out (s : State) (sp : Space) (m : Memory) : (setBuffer s sp m).out = s.out := by cases sp <;> rfl
@[simp] theorem setBuffer_inflater (s : State) (sp : Space) (m : Memory) : (setBuffer s sp m).inflater = s.inflater := by cases sp <;> rfl
@[simp] theorem setBuffer_deflater (s : State) (sp : Space) (m : Memory) : (setBuffer s sp m).deflater = s.deflater := by cases sp <;> rfl
@[simp] theorem setBuffer_powerCycles (s : State) (sp : Space) (m : Memory) : (setBuffer s sp m).powerCycles = s.powerCycles := by cases sp <;> rfl

/-! ## memWrite -/

@[simp] theorem memWrite_regs (s : State) (sp : Space) (a : Nat) (v : List Byte) : (memWrite s sp a v).regs = s.regs := by cases sp <;> rfl
@[simp] theorem memWrite_frZst (s : State) (sp : Space) (a : Nat) (v : List Byte) : (memWrite s sp a v).frZst = s.frZst := by cases sp <;> rfl
@[simp] theorem memWrite_session (s : State) (sp : Space) (a : Nat) (v : List Byte) : (memWrite s sp a v).session = s.session := by cases sp <;> rfl
@[simp] theorem memWrite_running (s : State) (sp : Space) (a : Nat) (v : List Byte) : (memWrite s sp a v).running = s.running := by cases sp <;> rfl
@[simp] theorem memWrite_hung (s : State) (sp : Space) (a : Nat) (v : List Byte) : (memWrite s sp a v).hung = s.hung := by cases sp <;> rfl
@[simp] theorem memWrite_params (s : State) (sp : Space) (a : Nat) (v : List Byte) : (memWrite s sp a v).params = s.params := by cases sp <;> rfl
@[simp] theorem memWrite_host (s : State) (sp : Space) (a : Nat) (v : List Byte) : (memWrite s sp a v).host = s.host := by cases sp <;> rfl
@[simp] theorem memWrite_reply (s : State) (sp : Space) (a : Nat) (v : List Byte) : (memWrite s sp a v).reply = s.reply := by cases sp <;> rfl
@[simp] theorem memWrite_source (s : State) (sp : Space) (a : Nat) (v : List Byte) : (memWrite s sp a v).source = s.source := by cases sp <;> rfl
@[simp] theorem memWrite_sink (s : State) (sp : Space) (a : Nat) (v : List Byte) : (memWrite s sp a v).sink = s.sink := by cases sp <;> rfl
@[simp] theorem memWrite_out (s : State) (sp : Space) (a : Nat) (v : List Byte) : (memWrite s sp a v).out = s.out := by cases sp <;> rfl
@[simp] theorem memWrite_inflater (s : State) (sp : Space) (a : Nat) (v : List Byte) : (memWrite s sp a v).inflater = s.inflater := by cases sp <;> rfl
@[simp] theorem memWrite_deflater (s : State) (sp : Space) (a : Nat) (v : List Byte) : (memWrite s sp a v).deflater = s.deflater := by cases sp <;> rfl
@[simp] theorem memWrite_powerCycles (s : State) (sp : Space) (a : Nat) (v : List Byte) : (memWrite s sp a v).powerCycles = s.powerCycles := by cases sp <;> rfl

/-! ## invalidateGeometry -/

@[simp] theorem invalidateGeometry_status (r : Regs) : (invalidateGeometry r).status = { r.status with cfg := false } := rfl
@[simp] theorem invalidateGeometry_width (r : Regs) : (invalidateGeometry r).width = r.width := rfl
@[simp] theorem invalidateGeometry_height (r : Regs) : (invalidateGeometry r).height = r.height := rfl
@[simp] theorem invalidateGeometry_bitDepth (r : Regs) : (invalidateGeometry r).bitDepth = r.bitDepth := rfl
@[simp] theorem invalidateGeometry_colorType (r : Regs) : (invalidateGeometry r).colorType = r.colorType := rfl
@[simp] theorem invalidateGeometry_compression (r : Regs) : (invalidateGeometry r).compression = r.compression := rfl
@[simp] theorem invalidateGeometry_filterMethod (r : Regs) : (invalidateGeometry r).filterMethod = r.filterMethod := rfl
@[simp] theorem invalidateGeometry_interlace (r : Regs) : (invalidateGeometry r).interlace = r.interlace := rfl
@[simp] theorem invalidateGeometry_channels (r : Regs) : (invalidateGeometry r).channels = 0#3 := rfl
@[simp] theorem invalidateGeometry_stride (r : Regs) : (invalidateGeometry r).stride = 0#3 := rfl
@[simp] theorem invalidateGeometry_pitch (r : Regs) : (invalidateGeometry r).pitch = 0#32 := rfl
@[simp] theorem invalidateGeometry_slbSize (r : Regs) : (invalidateGeometry r).slbSize = 0#32 := rfl
@[simp] theorem invalidateGeometry_pixSize (r : Regs) : (invalidateGeometry r).pixSize = 0#32 := rfl
@[simp] theorem invalidateGeometry_ufRow (r : Regs) : (invalidateGeometry r).ufRow = r.ufRow := rfl
@[simp] theorem invalidateGeometry_upRow (r : Regs) : (invalidateGeometry r).upRow = r.upRow := rfl
@[simp] theorem invalidateGeometry_pkRow (r : Regs) : (invalidateGeometry r).pkRow = r.pkRow := rfl
@[simp] theorem invalidateGeometry_feLeft (r : Regs) : (invalidateGeometry r).feLeft = r.feLeft := rfl
@[simp] theorem invalidateGeometry_crcAcc (r : Regs) : (invalidateGeometry r).crcAcc = r.crcAcc := rfl
@[simp] theorem invalidateGeometry_crcExpect (r : Regs) : (invalidateGeometry r).crcExpect = r.crcExpect := rfl
@[simp] theorem invalidateGeometry_chunkLen (r : Regs) : (invalidateGeometry r).chunkLen = r.chunkLen := rfl
@[simp] theorem invalidateGeometry_chunkType (r : Regs) : (invalidateGeometry r).chunkType = r.chunkType := rfl
@[simp] theorem invalidateGeometry_frOut (r : Regs) : (invalidateGeometry r).frOut = r.frOut := rfl
@[simp] theorem invalidateGeometry_inPos (r : Regs) : (invalidateGeometry r).inPos = r.inPos := rfl
@[simp] theorem invalidateGeometry_outPos (r : Regs) : (invalidateGeometry r).outPos = r.outPos := rfl
@[simp] theorem invalidateGeometry_idatCount (r : Regs) : (invalidateGeometry r).idatCount = r.idatCount := rfl

/-! ## configureCommit -/

@[simp] theorem configureCommit_status (r : Regs) : (configureCommit r).status = { r.status with frState := .idle, cfg := true } := rfl
@[simp] theorem configureCommit_width (r : Regs) : (configureCommit r).width = r.width := rfl
@[simp] theorem configureCommit_height (r : Regs) : (configureCommit r).height = r.height := rfl
@[simp] theorem configureCommit_bitDepth (r : Regs) : (configureCommit r).bitDepth = r.bitDepth := rfl
@[simp] theorem configureCommit_colorType (r : Regs) : (configureCommit r).colorType = r.colorType := rfl
@[simp] theorem configureCommit_compression (r : Regs) : (configureCommit r).compression = r.compression := rfl
@[simp] theorem configureCommit_filterMethod (r : Regs) : (configureCommit r).filterMethod = r.filterMethod := rfl
@[simp] theorem configureCommit_interlace (r : Regs) : (configureCommit r).interlace = r.interlace := rfl
@[simp] theorem configureCommit_channels (r : Regs) : (configureCommit r).channels = BitVec.ofNat 3 (geomChannels r) := rfl
@[simp] theorem configureCommit_stride (r : Regs) : (configureCommit r).stride = BitVec.ofNat 3 (geomStride r) := rfl
@[simp] theorem configureCommit_pitch (r : Regs) : (configureCommit r).pitch = BitVec.ofNat 32 (geomPitch r) := rfl
@[simp] theorem configureCommit_slbSize (r : Regs) : (configureCommit r).slbSize = BitVec.ofNat 32 (geomSlb r) := rfl
@[simp] theorem configureCommit_pixSize (r : Regs) : (configureCommit r).pixSize = BitVec.ofNat 32 (geomPix r) := rfl
@[simp] theorem configureCommit_ufRow (r : Regs) : (configureCommit r).ufRow = 0#32 := rfl
@[simp] theorem configureCommit_upRow (r : Regs) : (configureCommit r).upRow = 0#32 := rfl
@[simp] theorem configureCommit_pkRow (r : Regs) : (configureCommit r).pkRow = 0#32 := rfl
@[simp] theorem configureCommit_feLeft (r : Regs) : (configureCommit r).feLeft = r.height := rfl
@[simp] theorem configureCommit_crcAcc (r : Regs) : (configureCommit r).crcAcc = r.crcAcc := rfl
@[simp] theorem configureCommit_crcExpect (r : Regs) : (configureCommit r).crcExpect = r.crcExpect := rfl
@[simp] theorem configureCommit_chunkLen (r : Regs) : (configureCommit r).chunkLen = r.chunkLen := rfl
@[simp] theorem configureCommit_chunkType (r : Regs) : (configureCommit r).chunkType = r.chunkType := rfl
@[simp] theorem configureCommit_frOut (r : Regs) : (configureCommit r).frOut = 0#32 := rfl
@[simp] theorem configureCommit_inPos (r : Regs) : (configureCommit r).inPos = r.inPos := rfl
@[simp] theorem configureCommit_outPos (r : Regs) : (configureCommit r).outPos = r.outPos := rfl
@[simp] theorem configureCommit_idatCount (r : Regs) : (configureCommit r).idatCount = 0#32 := rfl

/-! ## statusError -/

@[simp] theorem statusError_err (op : Byte) (e : ErrKind) (st : Status) : (statusError op e st).err = true := rfl
@[simp] theorem statusError_cfg (op : Byte) (e : ErrKind) (st : Status) : (statusError op e st).cfg = st.cfg := rfl
@[simp] theorem statusError_frState (op : Byte) (e : ErrKind) (st : Status) : (statusError op e st).frState = st.frState := rfl
@[simp] theorem statusError_errCode (op : Byte) (e : ErrKind) (st : Status) : (statusError op e st).errCode = errorCode e := rfl
@[simp] theorem statusError_errOp (op : Byte) (e : ErrKind) (st : Status) : (statusError op e st).errOp = op := rfl

/-! ## Buffers through an update of another field -/

@[simp] theorem buffer_slb (s : State) : buffer s .slb = s.slb := rfl
@[simp] theorem buffer_pix (s : State) : buffer s .pix = s.pix := rfl
@[simp] theorem buffer_csb (s : State) : buffer s .csb = s.csb := rfl

/-- Setting a buffer and reading the same one back. -/
@[simp] theorem buffer_setBuffer_same (s : State) (sp : Space) (m : Memory) : buffer (setBuffer s sp m) sp = m := by
  cases sp <;> rfl

/-- Setting a buffer leaves the others. -/
theorem buffer_setBuffer_other (s : State) (sp sp' : Space) (m : Memory) (h : sp' ≠ sp) :
    buffer (setBuffer s sp m) sp' = buffer s sp' := by
  cases sp <;> cases sp' <;> first | rfl | exact absurd rfl h

end Sys2Proof.Machine
end

