-- ==== Sys2Proof/Laws/Memory.lean ====
section
/-! SUPPORT. The laws of buffers: read after write, frames, and that every write keeps the canonical form
and the bound on the offsets (20_memory.md R61). -/

namespace Sys2Proof.Machine

/-! ## One byte -/

/-- A byte just written is found. -/
@[simp] theorem findByte_putByte_same (m : Memory) (a : Nat) (v : Byte) : findByte (putByte m a v) a = some v := by
  induction m with
  | nil => simp [putByte, findByte]
  | cons c m ih =>
    obtain ⟨k, b⟩ := c
    by_cases h₁ : a < k
    · simp [putByte, h₁, findByte]
    · by_cases h₂ : a = k
      · simp [putByte, h₂, findByte]
      · simp [putByte, h₁, h₂, findByte, Ne.symm h₂, ih]

/-- A write leaves every other offset alone. -/
theorem findByte_putByte_other (m : Memory) (a a' : Nat) (v : Byte) (h : a' ≠ a) :
    findByte (putByte m a v) a' = findByte m a' := by
  induction m with
  | nil => simp [putByte, findByte, Ne.symm h]
  | cons c m ih =>
    obtain ⟨k, b⟩ := c
    by_cases h₁ : a < k
    · simp [putByte, h₁, findByte, Ne.symm h]
    · by_cases h₂ : a = k
      · subst h₂
        simp [putByte, findByte, Ne.symm h]
      · simp [putByte, h₁, h₂, findByte, ih]

/-- The offsets of a written buffer are the old ones and the written one. -/
theorem mem_putByte (m : Memory) (a : Nat) (v : Byte) (c : Host.Cell) (h : c ∈ putByte m a v) :
    c = (a, v) ∨ c ∈ m := by
  induction m with
  | nil => simpa [putByte] using h
  | cons d m ih =>
    obtain ⟨k, b⟩ := d
    unfold putByte at h
    split at h
    · simpa using h
    · split at h
      · rcases List.mem_cons.1 h with h | h
        · exact .inl h
        · exact .inr (List.mem_cons_of_mem _ h)
      · rcases List.mem_cons.1 h with h | h
        · exact .inr (by simp [h])
        · rcases ih h with h | h
          · exact .inl h
          · exact .inr (List.mem_cons_of_mem _ h)

/-- A write keeps the canonical form. -/
theorem putByte_wf (m : Memory) (a : Nat) (v : Byte) (h : m.wf) : (putByte m a v).wf := by
  induction m with
  | nil => simp [putByte, Memory.wf]
  | cons c m ih =>
    obtain ⟨k, b⟩ := c
    have hc := List.pairwise_cons.1 h
    unfold putByte
    split
    · rename_i hlt
      refine List.pairwise_cons.2 ⟨?_, h⟩
      intro d hd
      rcases List.mem_cons.1 hd with hd | hd
      · simpa [hd] using hlt
      · have := hc.1 d hd
        simp only at this ⊢
        omega
    · split
      · rename_i heq
        exact List.pairwise_cons.2 ⟨fun d hd => by simpa [heq] using hc.1 d hd, hc.2⟩
      · rename_i hlt hne
        refine List.pairwise_cons.2 ⟨?_, ih hc.2⟩
        intro d hd
        rcases mem_putByte m a v d hd with hd | hd
        · simp only [hd]
          omega
        · exact hc.1 d hd

/-- A write below a bound keeps every offset below it. -/
theorem putByte_within (m : Memory) (a : Nat) (v : Byte) (cap : Nat) (h : Within m cap) (ha : a < cap) :
    Within (putByte m a v) cap := by
  intro c hc
  rcases mem_putByte m a v c hc with rfl | hc
  · exact ha
  · exact h c hc

/-! ## A byte sequence -/

/-- The bytes outside the written range are as before. -/
theorem findByte_putBytes_outside (bs : List Byte) (m : Memory) (a a' : Nat) (h : a' < a ∨ a + bs.length ≤ a') :
    findByte (putBytes m a bs) a' = findByte m a' := by
  induction bs generalizing m a with
  | nil => rfl
  | cons v bs ih =>
    simp only [List.length_cons] at h
    rw [putBytes, ih _ _ (by omega), findByte_putByte_other _ _ _ _ (by omega)]

/-- Byte j of the written range is the j-th byte written. -/
theorem findByte_putBytes_inside (bs : List Byte) (m : Memory) (a j : Nat) (h : j < bs.length) :
    findByte (putBytes m a bs) (a + j) = some (bs.getD j 0#8) := by
  induction bs generalizing m a j with
  | nil => simp at h
  | cons v bs ih =>
    cases j with
    | zero =>
      rw [putBytes, findByte_putBytes_outside _ _ _ _ (by omega)]
      simp
    | succ j =>
      have := ih (putByte m a v) (a + 1) j (by simpa using h)
      rw [putBytes, show a + (j + 1) = a + 1 + j by omega, this]
      simp

/-- Writing a byte sequence keeps the canonical form. -/
theorem putBytes_wf (bs : List Byte) (m : Memory) (a : Nat) (h : m.wf) : (putBytes m a bs).wf := by
  induction bs generalizing m a with
  | nil => exact h
  | cons v bs ih => exact ih _ _ (putByte_wf _ _ _ h)

/-- Writing below a bound keeps every offset below it. -/
theorem putBytes_within (bs : List Byte) (m : Memory) (a cap : Nat) (h : Within m cap) (ha : a + bs.length ≤ cap) :
    Within (putBytes m a bs) cap := by
  induction bs generalizing m a with
  | nil => exact h
  | cons v bs ih =>
    simp only [List.length_cons] at ha
    exact ih _ _ (putByte_within _ _ _ _ h (by omega)) (by omega)

/-! ## Reads -/

/-- A buffer read depends on the buffers and the power-on count alone. -/
theorem readByte_congr (s t : State) (sp : Space) (a : Nat) (hb : buffer t sp = buffer s sp)
    (hp : t.powerCycles = s.powerCycles) : readByte t sp a = readByte s sp a := by
  simp [readByte, hb, hp]

/-- What a read finds after a write of a byte sequence (R61). -/
theorem readByte_memWrite (s : State) (sp sp' : Space) (a a' : Nat) (bs : List Byte) :
    readByte (memWrite s sp a bs) sp' a' =
      if sp' = sp ∧ a ≤ a' ∧ a' < a + bs.length then bs.getD (a' - a) 0#8 else readByte s sp' a' := by
  by_cases hsp : sp' = sp
  · subst hsp
    by_cases hin : a ≤ a' ∧ a' < a + bs.length
    · obtain ⟨j, rfl⟩ := Nat.exists_eq_add_of_le hin.1
      simp [readByte, memWrite, hin.2, findByte_putBytes_inside bs (buffer s sp') a j (by omega)]
    · simp [readByte, memWrite, hin, findByte_putBytes_outside bs (buffer s sp') a a' (by omega)]
  · simp [hsp, readByte, memWrite, buffer_setBuffer_other _ _ _ _ hsp]

/-- A read outside the written range is as before. -/
theorem readByte_memWrite_outside (s : State) (sp sp' : Space) (a a' : Nat) (bs : List Byte)
    (h : ¬ (sp' = sp ∧ a ≤ a' ∧ a' < a + bs.length)) :
    readByte (memWrite s sp a bs) sp' a' = readByte s sp' a' := by
  rw [readByte_memWrite, if_neg h]

@[simp] theorem memRead_length (s : State) (sp : Space) (a n : Nat) : (memRead s sp a n).length = n := by
  simp [memRead]

/-- Byte j of a read. -/
theorem memRead_getD (s : State) (sp : Space) (a n j : Nat) (h : j < n) :
    (memRead s sp a n).getD j 0#8 = readByte s sp (a + j) := by
  simp [memRead, h]

/-- Two reads agree when the bytes agree. -/
theorem memRead_congr (s t : State) (sp : Space) (a n : Nat)
    (h : ∀ j < n, readByte t sp (a + j) = readByte s sp (a + j)) : memRead t sp a n = memRead s sp a n := by
  simp only [memRead]
  exact List.map_congr_left fun j hj => h j (List.mem_range.1 hj)

/-- Reading back what was just written. -/
theorem memRead_memWrite_same (s : State) (sp : Space) (a : Nat) (bs : List Byte) :
    memRead (memWrite s sp a bs) sp a bs.length = bs := by
  apply List.ext_getElem
  · simp
  · intro j h₁ h₂
    simp [memRead, readByte_memWrite, h₂]

/-- Every buffer is canonical, with every offset below its capacity. -/
structure BuffersOk (s : State) : Prop where
  wf : ∀ sp, (buffer s sp).wf
  within : ∀ sp, Within (buffer s sp) (s.params.cap sp)

/-- Writing below the capacity keeps the buffers canonical and within it. -/
theorem memWrite_buffersOk (s : State) (sp : Space) (a : Nat) (bs : List Byte) (h : BuffersOk s)
    (ha : a + bs.length ≤ s.params.cap sp) : BuffersOk (memWrite s sp a bs) := by
  refine ⟨fun sp' => ?_, fun sp' => ?_⟩ <;> by_cases hsp : sp' = sp
  · subst hsp
    simpa [memWrite] using putBytes_wf bs (buffer s sp') a (h.wf sp')
  · simpa [memWrite, buffer_setBuffer_other _ _ _ _ hsp] using h.wf sp'
  · subst hsp
    simpa [memWrite] using putBytes_within bs (buffer s sp') a _ (h.within sp') ha
  · simpa [memWrite, buffer_setBuffer_other _ _ _ _ hsp] using h.within sp'

end Sys2Proof.Machine
end

