-- ==== Sys2Proof/Laws/Ops.lean ====
section
/-! SUPPORT. What each shared operation can do, said once: the pseudocode combinators, error entry, the
stream ports and the chunk body (00_scope.md R10, 20_memory.md R70 and R71, 42_framer.md R164). -/

namespace Sys2Proof.Machine

/-! ## Combinators -/

@[simp] theorem andThen_ok {α β : Type} (a : α) (s : State) (f : α → State → Result β) :
    (Result.ok a s).andThen f = f a s := rfl

@[simp] theorem andThen_raised {α β : Type} (e : ErrKind) (s : State) (f : α → State → Result β) :
    (Result.raised e s : Result α).andThen f = .raised e s := rfl

@[simp] theorem andThen_blocked {α β : Type} (h : Hang) (s : State) (f : α → State → Result β) :
    (Result.blocked h s : Result α).andThen f = .blocked h s := rfl

theorem require_pos {c : Bool} (h : c = true) (e : ErrKind) (s : State) : require c e s = .ok () s := by
  simp [require, h]

theorem require_neg {c : Bool} (h : c = false) (e : ErrKind) (s : State) : require c e s = .raised e s := by
  simp [require, h]

@[simp] theorem require_true (e : ErrKind) (s : State) : require true e s = .ok () s := rfl
@[simp] theorem require_false (e : ErrKind) (s : State) : require false e s = .raised e s := rfl

/-- A check followed by more pseudocode: go on where it holds, raise where it does not. -/
theorem require_andThen {β : Type} (c : Bool) (e : ErrKind) (s : State) (f : Unit → State → Result β) :
    (require c e s).andThen f = if c = true then f () s else .raised e s := by
  cases c <;> rfl

/-! ## The end of a command -/

@[simp] theorem settle_ok (op : Byte) (s : State) : settle op (.ok () s) = s := rfl
@[simp] theorem settle_raised (op : Byte) (e : ErrKind) (s : State) :
    settle op (.raised e s) = errorState op (errorCode e) s := rfl
@[simp] theorem settle_blocked (op : Byte) (h : Hang) (s : State) :
    settle op (.blocked h s) = { s with hung := some h } := rfl

/-- With no error pending a command runs its pseudocode to the end. -/
theorem runCommand_ready {s : State} (h : s.regs.status.err = false) (op : Byte) (body : State → Result Unit) :
    runCommand op body s = .next (settle op (body s)) := by
  simp [runCommand, h]

/-- With an error pending a command is ignored (60_exceptions.md R273). -/
theorem runCommand_sticky {s : State} (h : s.regs.status.err = true) (op : Byte) (body : State → Result Unit) :
    runCommand op body s = .next s := by
  simp [runCommand, h]

/-! ## A property every end of a piece of pseudocode has -/

/-- The state reached has the property, however the pseudocode ends, and an error raised is one of R271's. -/
def Result.Ends {α : Type} (P : State → Prop) : Result α → Prop
  | .ok _ s => P s
  | .raised e s => P s ∧ errorCode e ∈ raisedCodes
  | .blocked _ s => P s

@[simp] theorem ends_ok {α : Type} (P : State → Prop) (a : α) (s : State) : (Result.ok a s).Ends P ↔ P s := Iff.rfl
@[simp] theorem ends_raised {α : Type} (P : State → Prop) (e : ErrKind) (s : State) :
    (Result.raised e s : Result α).Ends P ↔ P s ∧ errorCode e ∈ raisedCodes := Iff.rfl
@[simp] theorem ends_blocked {α : Type} (P : State → Prop) (h : Hang) (s : State) :
    (Result.blocked h s : Result α).Ends P ↔ P s := Iff.rfl

/-- A property that holds at every end of the first piece, and that the second piece keeps, holds at every end
of both. -/
theorem ends_andThen {α β : Type} {P : State → Prop} {r : Result α} {f : α → State → Result β} (hr : r.Ends P)
    (hf : ∀ a s, r = .ok a s → P s → (f a s).Ends P) : (r.andThen f).Ends P := by
  cases r with
  | ok a s => exact hf a s rfl hr
  | raised e s => exact hr
  | blocked h s => exact hr

theorem ends_require {P : State → Prop} {c : Bool} {e : ErrKind} {s : State} (h : P s)
    (he : errorCode e ∈ raisedCodes := by decide) : (require c e s).Ends P := by
  cases c
  · exact ⟨h, he⟩
  · exact h

/-- A check, then pseudocode that may rely on it. -/
theorem ends_require_andThen {β : Type} {P : State → Prop} {c : Bool} {e : ErrKind} {s : State}
    {f : Unit → State → Result β} (h : P s) (hf : c = true → (f () s).Ends P)
    (he : errorCode e ∈ raisedCodes := by decide) : ((require c e s).andThen f).Ends P := by
  cases c
  · exact ⟨h, he⟩
  · exact hf rfl

theorem ends_mono {α : Type} {P Q : State → Prop} {r : Result α} (h : r.Ends P) (hpq : ∀ s, P s → Q s) : r.Ends Q := by
  cases r
  · exact hpq _ h
  · exact ⟨hpq _ h.1, h.2⟩
  · exact hpq _ h

/-- A row command's body that keeps a property keeps it however often it runs. -/
theorem ends_repeatRows {P : State → Prop} {body : State → Result Unit} (hb : ∀ s, P s → (body s).Ends P) (n : Nat)
    (s : State) (h : P s) : (repeatRows body n s).Ends P := by
  induction n generalizing s with
  | zero => exact h
  | succ n ih => exact ends_andThen (hb s h) fun _ t _ ht => ih t ht

/-- What holds after a command with no error pending: the property of its ends, through error entry and hanging. -/
theorem settle_of_ends {P Q : State → Prop} {op : Byte} {r : Result Unit} (h : r.Ends P) (hok : ∀ s, P s → Q s)
    (herr : ∀ s e, P s → errorCode e ∈ raisedCodes → Q (errorState op (errorCode e) s))
    (hhung : ∀ s w, P s → Q { s with hung := some w }) : Q (settle op r) := by
  cases r with
  | ok _ s => exact hok _ h
  | raised e s => exact herr _ _ h.1 h.2
  | blocked w s => exact hhung _ _ h

/-! ## Stream reads -/

theorem sourceAnswer_length {src : Source} {n : Nat} {a : List Byte} (h : sourceAnswer src n = some a) :
    a.length ≤ n := by
  unfold sourceAnswer at h
  split at h <;> simp only [Option.some.injEq, Option.map_eq_some_iff] at h
  · subst h; simp
  · obtain ⟨b, -, rfl⟩ := h; simp
  · obtain ⟨b, -, rfl⟩ := h; simp

theorem delivers_length {src src' : Source} {n : Nat} {p : List Byte} (h : Delivers src n p src') : p.length ≤ n := by
  unfold Delivers at h
  split at h
  · simp [h.1]
  · exact sourceAnswer_length h.1

/-- A read the source answers. -/
theorem streamRead_of_delivers {s : State} {n : Nat} {p : List Byte} {src' : Source} (h : Delivers s.source n p src') :
    streamRead n s = .ok p (received s src' p.length) := by
  unfold Delivers at h
  unfold streamRead
  split at h
  · rename_i h0
    simp [h0, h.1, h.2, received]
  · rename_i h0
    simp [h0, h.1, h.2, received]

/-- A read the source never answers. -/
theorem streamRead_of_silent {s : State} {n : Nat} (h : SilentOn s.source n) : streamRead n s = .blocked .source s := by
  simp [streamRead, h.1, h.2]

/-- A read either is answered or blocks. -/
theorem streamRead_cases (n : Nat) (s : State) :
    (∃ p src', Delivers s.source n p src' ∧ streamRead n s = .ok p (received s src' p.length)) ∨
    (SilentOn s.source n ∧ streamRead n s = .blocked .source s) := by
  by_cases h0 : n = 0
  · have h : Delivers s.source n [] s.source := by simp [Delivers, h0]
    exact .inl ⟨[], s.source, h, streamRead_of_delivers h⟩
  · cases ha : sourceAnswer s.source n with
    | none => exact .inr ⟨⟨h0, ha⟩, streamRead_of_silent ⟨h0, ha⟩⟩
    | some a =>
      have h : Delivers s.source n a (sourceNext s.source n) := by simp [Delivers, h0, ha]
      exact .inl ⟨a, _, h, streamRead_of_delivers h⟩

theorem ends_streamRead {P : State → Prop} {n : Nat} {s : State} (h : P s)
    (hr : ∀ p src', Delivers s.source n p src' → P (received s src' p.length)) : (streamRead n s).Ends P := by
  rcases streamRead_cases n s with ⟨p, src', hd, he⟩ | ⟨-, he⟩ <;> rw [he]
  · exact hr p src' hd
  · exact h

/-! ## Stream writes -/

theorem sinkAnswer_le {snk : Sink} {bytes : List Byte} {k : Nat} (h : sinkAnswer snk bytes = some k) :
    k ≤ bytes.length := by
  unfold sinkAnswer at h
  split at h <;> simp only [Option.map_eq_some_iff] at h <;> obtain ⟨j, -, rfl⟩ := h <;> exact Nat.min_le_left _ _

/-- A write the sink answers. -/
theorem streamWrite_of_answer {s : State} {bytes : List Byte} {k : Nat} (hne : bytes ≠ [])
    (h : sinkAnswer s.sink bytes = some k) :
    streamWrite bytes s = require (k == bytes.length) .ioError (sent s bytes k) := by
  simp [streamWrite, hne, h, sent]

/-- A write the sink never answers. -/
theorem streamWrite_of_silent {s : State} {bytes : List Byte} (hne : bytes ≠ []) (h : sinkAnswer s.sink bytes = none) :
    streamWrite bytes s = .blocked .sink s := by
  simp [streamWrite, hne, h]

theorem ends_streamWrite {P : State → Prop} {bytes : List Byte} {s : State} (h : P s)
    (hw : ∀ k, P (sent s bytes k)) : (streamWrite bytes s).Ends P := by
  by_cases hne : bytes = []
  · simpa [streamWrite, hne] using h
  · cases ha : sinkAnswer s.sink bytes with
    | none => rw [streamWrite_of_silent hne ha]; exact h
    | some k => rw [streamWrite_of_answer hne ha]; exact ends_require (hw k)

theorem chunkBytes_ne_nil (t : Word) (p : List Byte) : chunkBytes t p ≠ [] := by
  simp [chunkBytes, be32]

/-! ## The chunk body -/

/-- The states readBody passes through, when both reads are answered (42_framer.md R164): the payload kept in
CSB; then the CRC field read; then CRC_EXPECT and CRC_ACC loaded. -/
def bodyKept (s : State) (p : List Byte) (src : Source) : State := memWrite (received s src p.length) .csb 0 p

/-- The state readBody compares the CRCs in. -/
def bodyLoaded (t : Word) (s : State) (p q : List Byte) (src src' : Source) : State :=
  loadCrcs (unBe32 q) (chunkCrcAcc t p) (received (bodyKept s p src) src' q.length)

/-- The CRC comparison at the end of readBody. -/
theorem checkBody_eq (t : Word) (p q : List Byte) (s : State) :
    checkBody t p q s =
      if chunkCrc t p = unBe32 q then .ok p (loadCrcs (unBe32 q) (chunkCrcAcc t p) s)
      else .raised .crcError (loadCrcs (unBe32 q) (chunkCrcAcc t p) s) := by
  by_cases h : chunkCrc t p = unBe32 q <;> simp only [chunkCrc] at h <;>
    simp [checkBody, require_andThen, crcResult, chunkCrc, h]

/-- Everything the second half of readBody can do. -/
theorem readCrc_cases (t : Word) (p : List Byte) (s : State) :
    (SilentOn s.source 4 ∧ readCrc t p s = .blocked .source s) ∨
    ∃ q src', Delivers s.source 4 q src' ∧
      ((q.length ≠ 4 ∧ readCrc t p s = .raised .ioError (received s src' q.length)) ∨
       (q.length = 4 ∧ readCrc t p s = checkBody t p q (received s src' q.length))) := by
  rcases streamRead_cases 4 s with ⟨q, src', hd, he⟩ | ⟨hs, he⟩
  · refine .inr ⟨q, src', hd, ?_⟩
    by_cases hq : q.length = 4
    · exact .inr ⟨hq, by simp [readCrc, he, require_andThen, hq]⟩
    · exact .inl ⟨hq, by simp [readCrc, he, require_andThen, hq]⟩
  · exact .inl ⟨hs, by simp [readCrc, he]⟩

/-- Everything readBody can do (R164). -/
theorem readBody_cases (t : Word) (s : State) :
    (s.params.csbCap < s.regs.chunkLen.toNat ∧ readBody t s = .raised .memoryError s) ∨
    (s.regs.chunkLen.toNat ≤ s.params.csbCap ∧
      ((SilentOn s.source s.regs.chunkLen.toNat ∧ readBody t s = .blocked .source s) ∨
       ∃ p src, Delivers s.source s.regs.chunkLen.toNat p src ∧
        ((p.length ≠ s.regs.chunkLen.toNat ∧ readBody t s = .raised .ioError (bodyKept s p src)) ∨
         (p.length = s.regs.chunkLen.toNat ∧ readBody t s = readCrc t p (bodyKept s p src))))) := by
  by_cases hn : s.regs.chunkLen.toNat ≤ s.params.csbCap
  · refine .inr ⟨hn, ?_⟩
    rcases streamRead_cases s.regs.chunkLen.toNat s with ⟨p, src, hd, he⟩ | ⟨hs, he⟩
    · refine .inr ⟨p, src, hd, ?_⟩
      by_cases hp : p.length = s.regs.chunkLen.toNat
      · exact .inr ⟨hp, by simp [readBody, hn, he, require_andThen, hp, bodyKept]⟩
      · exact .inl ⟨hp, by simp [readBody, hn, he, require_andThen, hp, bodyKept]⟩
    · exact .inl ⟨hs, by simp [readBody, hn, he]⟩
  · exact .inl ⟨by omega, by simp [readBody, hn, require_andThen]⟩

@[simp] theorem bodyKept_source (s : State) (p : List Byte) (src : Source) : (bodyKept s p src).source = src := by
  simp [bodyKept, received]

/-- readBody goes through exactly when payload and CRC field come whole and the CRC fits (R164). -/
theorem readBody_ok {t : Word} {s u : State} {p : List Byte} (h : readBody t s = .ok p u) :
    s.regs.chunkLen.toNat ≤ s.params.csbCap ∧ ∃ src q src', Delivers s.source s.regs.chunkLen.toNat p src ∧
      p.length = s.regs.chunkLen.toNat ∧ Delivers src 4 q src' ∧ q.length = 4 ∧ chunkCrc t p = unBe32 q ∧
      u = bodyLoaded t s p q src src' := by
  rcases readBody_cases t s with ⟨-, he⟩ | ⟨hn, ⟨-, he⟩ | ⟨p', src, hd, ⟨-, he⟩ | ⟨hp, he⟩⟩⟩
  · simp [he] at h
  · simp [he] at h
  · simp [he] at h
  · rcases readCrc_cases t p' (bodyKept s p' src) with ⟨-, hr⟩ | ⟨q, src', hq, ⟨-, hr⟩ | ⟨hl, hr⟩⟩
    · simp [he, hr] at h
    · simp [he, hr] at h
    · rw [he, hr, checkBody_eq] at h
      by_cases hc : chunkCrc t p' = unBe32 q
      · simp only [hc, if_true, Result.ok.injEq] at h
        obtain ⟨rfl, rfl⟩ := h
        exact ⟨hn, src, q, src', hd, hp, by simpa using hq, hl, hc, by simp [bodyLoaded]⟩
      · simp [hc] at h

/-! ## The compression service -/

/-- The inflater's answer keeps the contract's bounds (42_framer.md R160). -/
theorem inflateAnswer_bounds (s : State) (input : List Byte) (room : Nat) :
    (inflateAnswer s input room).consumed ≤ input.length ∧ (inflateAnswer s input room).output.length ≤ room := by
  simp only [inflateAnswer, inflateBound]
  exact ⟨Nat.min_le_left _ _, by simp⟩

/-- The deflater's answer keeps the contract's bound (42_framer.md R162). -/
theorem deflateAnswer_bound (s : State) (input : List Byte) (cap : Nat) :
    (deflateAnswer s input cap).output.length ≤ cap := by
  simp [deflateAnswer, deflateBound]

end Sys2Proof.Machine
end

