-- ==== Sys2Proof/Laws/PerInstr.lean ====
section
/-! SUPPORT. Per instruction: the word the encoder gives is the row of spec/opcode_table.json, its fixed bits
plus the value of its one field at the field's place. -/

set_option autoImplicit false

namespace Sys2Proof.Laws.EncodeMatchesTable

/-- The fixed bits of an instruction's row ("match"). -/
def fixedBits : Instr → Nat
  | .nop => 0x00000000
  | .reset _ => 0x01000000
  | .configure => 0x02000000
  | .crcInit => 0x10000000
  | .crcType => 0x11000000
  | .crcCsb => 0x12000000
  | .crcCheck => 0x13000000
  | .chunkHdr => 0x20000000
  | .chunkRead => 0x21000000
  | .chunkSkip => 0x22000000
  | .chunkEmit => 0x23000000
  | .idatRun => 0x24000000
  | .idatEmit => 0x25000000
  | .unfilterRow => 0x30000000
  | .unfilterAll => 0x31000000
  | .filterRow _ => 0x32000000
  | .filterAll _ => 0x33000000
  | .unpackRow => 0x40000000
  | .unpackAll => 0x41000000
  | .packRow => 0x42000000
  | .packAll => 0x43000000

/-- The value of the field of an instruction's row at its place: bits [23:0] of RESET, bits [23:16] of the FILTER
commands. -/
def fieldBits : Instr → Nat
  | .nop => 0
  | .reset ignored => ignored.toNat * 2 ^ 0
  | .configure => 0
  | .crcInit => 0
  | .crcType => 0
  | .crcCsb => 0
  | .crcCheck => 0
  | .chunkHdr => 0
  | .chunkRead => 0
  | .chunkSkip => 0
  | .chunkEmit => 0
  | .idatRun => 0
  | .idatEmit => 0
  | .unfilterRow => 0
  | .unfilterAll => 0
  | .filterRow ft => ft.toNat * 2 ^ 16
  | .filterAll ft => ft.toNat * 2 ^ 16
  | .unpackRow => 0
  | .unpackAll => 0
  | .packRow => 0
  | .packAll => 0

/-- The word encode gives is the row's fixed bits plus its field. -/
def Statement (i : Instr) : Prop := (encode i).toNat = fixedBits i + fieldBits i

theorem nop : Statement .nop := rfl
theorem reset (ignored : BitVec 24) : Statement (.reset ignored) := by
  show (1#8 ++ ignored).toNat = 0x01000000 + ignored.toNat * 2 ^ 0
  rw [BitVec.toNat_append, Nat.shiftLeft_eq, Nat.mul_comm, ← Nat.two_pow_add_eq_or_of_lt ignored.isLt]
  simp
theorem configure : Statement .configure := rfl
theorem crcInit : Statement .crcInit := rfl
theorem crcType : Statement .crcType := rfl
theorem crcCsb : Statement .crcCsb := rfl
theorem crcCheck : Statement .crcCheck := rfl
theorem chunkHdr : Statement .chunkHdr := rfl
theorem chunkRead : Statement .chunkRead := rfl
theorem chunkSkip : Statement .chunkSkip := rfl
theorem chunkEmit : Statement .chunkEmit := rfl
theorem idatRun : Statement .idatRun := rfl
theorem idatEmit : Statement .idatEmit := rfl
theorem unfilterRow : Statement .unfilterRow := rfl
theorem unfilterAll : Statement .unfilterAll := rfl
theorem filterRow (ft : Byte) : Statement (.filterRow ft) := by
  revert ft; unfold Statement; decide +kernel
theorem filterAll (ft : Byte) : Statement (.filterAll ft) := by
  revert ft; unfold Statement; decide +kernel
theorem unpackRow : Statement .unpackRow := rfl
theorem unpackAll : Statement .unpackAll := rfl
theorem packRow : Statement .packRow := rfl
theorem packAll : Statement .packAll := rfl

end Sys2Proof.Laws.EncodeMatchesTable
end

