-- ==== Sys2Proof/Laws/Rows.lean ====
section
/-! SUPPORT. The laws of rows: the lengths of what the filters and the bit-depth functions make, the geometry an
accepted descriptor has, and what one row command's body does (43_filter.md, 44_bitdepth.md). -/

set_option autoImplicit false

namespace Sys2Proof.Machine

/-! ## Lengths -/

theorem unfilterFrom_length (ft : FilterType) (stride : Nat) (prev : Option (List Byte)) (out rest : List Byte) :
    (unfilterFrom ft stride prev out rest).length = out.length + rest.length := by
  induction rest generalizing out with
  | nil => simp [unfilterFrom]
  | cons v rest ih => rw [unfilterFrom, ih]; simp; omega

@[simp] theorem unfilterRow_length (ft : FilterType) (stride : Nat) (prev : Option (List Byte)) (cur : List Byte) :
    (unfilterRow ft stride prev cur).length = cur.length := by
  simp [unfilterRow, unfilterFrom_length]

@[simp] theorem filterRow_length (ft : FilterType) (stride : Nat) (prev : Option (List Byte)) (raw : List Byte) :
    (filterRow ft stride prev raw).length = raw.length := by
  simp [filterRow]

theorem unpackRow_length_shallow {d : Nat} (hd : d ≠ 8) (n : Nat) (row : List Byte) : (unpackRow d n row).length = n := by
  simp [unpackRow, hd]

theorem packSamples_length (d : Nat) (samples out : List Byte) (ks : List Nat) :
    (ks.foldl (packSample d samples) out).length = out.length := by
  induction ks generalizing out with
  | nil => rfl
  | cons k ks ih => rw [List.foldl_cons, ih]; simp [packSample]

theorem packRow_length_shallow {d : Nat} (hd : d ≠ 8) (pitch n : Nat) (samples : List Byte) :
    (packRow d pitch n samples).length = pitch := by
  simp [packRow, hd, packSamples_length]

@[simp] theorem slbRow_length (s : State) (i : Nat) : (slbRow s i).length = s.regs.pitch.toNat := by
  simp [slbRow]

@[simp] theorem pixRow_length (s : State) (r : Nat) : (pixRow s r).length = samplesPerRow s.regs := by
  simp [pixRow]

/-! ## The geometry of an accepted descriptor -/

/-- What CONFIGURE's checks leave of BIT_DEPTH, COLOR_TYPE and the sizes (40_control.md R124). -/
theorem accepted_cases {r : Regs} (h : configureError r = none) :
    (r.bitDepth.toNat = 1 ∨ r.bitDepth.toNat = 2 ∨ r.bitDepth.toNat = 4 ∨ r.bitDepth.toNat = 8) ∧
    1 ≤ geomChannels r ∧ geomChannels r ≤ 4 ∧ 1 ≤ r.width.toNat ∧ 1 ≤ r.height.toNat := by
  unfold configureError at h
  simp only at h
  repeat' (split at h; · simp at h)
  rename_i hc h1 h2 h3 h4 h5 h6 h7 h8
  simp only [not_not] at h1 h6
  refine ⟨by omega, ?_, ?_, h6.1, h6.2⟩ <;>
    (unfold geomChannels; unfold channelsOf at hc ⊢; split <;> simp_all)

/-- The pitch of a configured block at depth 8 is the number of samples in a row (40_control.md R125). -/
theorem configured_pitch {r : Regs} {p : Params} (h : Configured r p) :
    r.pitch.toNat = (samplesPerRow r * r.bitDepth.toNat + 7) / 8 := by
  rw [h.pitch, geomPitch, ceilDiv, samplesPerRow, h.channels]
  congr 1
  have : r.width.toNat * r.bitDepth.toNat * geomChannels r = r.width.toNat * geomChannels r * r.bitDepth.toNat := by ring
  omega

theorem configured_pitch8 {r : Regs} {p : Params} (h : Configured r p) (h8 : r.bitDepth.toNat = 8) :
    r.pitch.toNat = samplesPerRow r := by
  rw [configured_pitch h, h8]
  omega

/-- The stride of a configured block is at least 1 (43_filter.md R201). -/
theorem configured_stride {r : Regs} {p : Params} (h : Configured r p) : 1 ≤ r.stride.toNat := by
  obtain ⟨hd, hn, -⟩ := accepted_cases h.accepted
  rw [h.stride, geomStride, ceilDiv]
  have : 1 ≤ r.bitDepth.toNat * geomChannels r := Nat.mul_pos (by omega) hn
  omega

/-- A packed row of a configured block is a pitch long. -/
theorem packRow_length {r : Regs} {p : Params} (h : Configured r p) (samples : List Byte)
    (hs : samples.length = samplesPerRow r) :
    (packRow r.bitDepth.toNat r.pitch.toNat (samplesPerRow r) samples).length = r.pitch.toNat := by
  by_cases h8 : r.bitDepth.toNat = 8
  · simp [packRow, h8, configured_pitch8 h h8, hs]
  · exact packRow_length_shallow h8 _ _ _

/-- An unpacked row of a configured block holds W·N samples. -/
theorem unpackRow_length {r : Regs} {p : Params} (h : Configured r p) (row : List Byte)
    (hr : row.length = r.pitch.toNat) :
    (unpackRow r.bitDepth.toNat (samplesPerRow r) row).length = samplesPerRow r := by
  by_cases h8 : r.bitDepth.toNat = 8
  · simp [unpackRow, h8, hr, configured_pitch8 h h8]
  · exact unpackRow_length_shallow h8 _ _

/-- Row i's bytes lie below the row after the last. -/
theorem row_within {i h n : Nat} (hi : i < h) : i * n + n ≤ h * n := by
  calc i * n + n = (i + 1) * n := by ring
    _ ≤ h * n := Nat.mul_le_mul_right _ hi

/-- The rows below HEIGHT of a configured block lie within SLB_SIZE (20_memory.md R62). -/
theorem slb_row_within {r : Regs} {p : Params} (h : Configured r p) {i : Nat} (hi : i < r.height.toNat) :
    filtAt r i + 1 + r.pitch.toNat ≤ r.slbSize.toNat := by
  have := row_within (n := r.pitch.toNat + 1) hi
  rw [h.slbSize, geomSlb, ← h.pitch, filtAt]
  omega

/-- The rows below HEIGHT of a configured block lie within PIX_SIZE (20_memory.md R63). -/
theorem pix_row_within {r : Regs} {p : Params} (h : Configured r p) {i : Nat} (hi : i < r.height.toNat) :
    pixAt r i 0 + samplesPerRow r ≤ r.pixSize.toNat := by
  have := row_within (n := samplesPerRow r) hi
  have e : geomPix r = r.height.toNat * samplesPerRow r := by
    rw [geomPix, samplesPerRow, h.channels]; ring
  rw [h.pixSize, e, pixAt]
  omega

/-! ## One row command's body, everything it can do -/

/-- UNFILTER's body: the error with nothing changed, or the row reconstructed (43_filter.md R205). -/
theorem unfilterNext_cases (s : State) :
    (filterTypeOf (filterByte s s.regs.ufRow.toNat) = none ∧ unfilterNext s = .raised .unknownFilterError s) ∨
    ∃ ft, filterTypeOf (filterByte s s.regs.ufRow.toNat) = some ft ∧
      unfilterNext s = .ok () (setUfRow (s.regs.ufRow + 1#32)
        (memWrite s .slb (dataAt s.regs s.regs.ufRow.toNat 0)
          (unfilterRow ft s.regs.stride.toNat (slbRowAbove s s.regs.ufRow.toNat) (slbRow s s.regs.ufRow.toNat)))) := by
  unfold unfilterNext
  simp only
  split
  · rename_i h; exact .inl ⟨h, rfl⟩
  · rename_i ft h; exact .inr ⟨ft, h, by simp⟩

/-- PACK's body: the error with nothing changed, or the row packed (44_bitdepth.md R244). -/
theorem packNext_cases (s : State) :
    (samplesFit s.regs.bitDepth.toNat (pixRow s s.regs.pkRow.toNat) = false ∧
      packNext s = .raised .sampleRangeError s) ∨
    (samplesFit s.regs.bitDepth.toNat (pixRow s s.regs.pkRow.toNat) = true ∧
      packNext s = .ok () (setPkRow (s.regs.pkRow + 1#32)
        (memWrite s .slb (filtAt s.regs s.regs.pkRow.toNat)
          (0#8 :: packRow s.regs.bitDepth.toNat s.regs.pitch.toNat (samplesPerRow s.regs)
            (pixRow s s.regs.pkRow.toNat))))) := by
  cases hf : samplesFit s.regs.bitDepth.toNat (pixRow s s.regs.pkRow.toNat)
  · exact .inl ⟨rfl, by simp [packNext, hf]⟩
  · refine .inr ⟨rfl, ?_⟩
    simp only [packNext, hf, require_true, andThen_ok]
    rfl

/-- FILTER's body: the row filtered, its filter byte written (43_filter.md R208). -/
theorem filterNext_eq (ftByte : Byte) (ft : FilterType) (s : State) :
    filterNext ftByte ft s = .ok () (setFeLeft (BitVec.ofNat 32 (s.regs.feLeft.toNat - 1))
      (memWrite s .slb (filtAt s.regs (s.regs.feLeft.toNat - 1))
        (ftByte :: filterRow ft s.regs.stride.toNat (slbRowAbove s (s.regs.feLeft.toNat - 1))
          (slbRow s (s.regs.feLeft.toNat - 1))))) := rfl

/-- UNPACK's body: the row unpacked (44_bitdepth.md R241). -/
theorem unpackNext_eq (s : State) :
    unpackNext s = .ok () (setUpRow (s.regs.upRow + 1#32)
      (memWrite s .pix (pixAt s.regs s.regs.upRow.toNat 0)
        (unpackRow s.regs.bitDepth.toNat (samplesPerRow s.regs) (slbRow s s.regs.upRow.toNat)))) := rfl

/-! ## Commands in a row -/

@[simp] theorem execAll_nil (s : State) : execAll [] s = .next s := rfl

theorem execAll_cons_next {i : Instr} {is : List Instr} {s t : State} (h : exec i s = .next t) :
    execAll (i :: is) s = execAll is t := by
  simp [execAll, h]

theorem execAll_append_next {is js : List Instr} {s t : State} (h : execAll is s = .next t) :
    execAll (is ++ js) s = execAll js t := by
  induction is generalizing s with
  | nil => simp only [execAll, Host.Outcome.next.injEq] at h; simp [h]
  | cons i is ih =>
    simp only [execAll, List.cons_append] at h ⊢
    split at h
    · exact ih h
    · simp at h
    · simp at h

end Sys2Proof.Machine
end

