-- ==== Sys2Proof/Laws/Service.lean ====
section
/-! SUPPORT. The laws of the compression service's sessions: where room never runs out, as INFLATE_SPLIT needs it
(42_framer.md R163), and what feeding a payload to the inflater can do (R170). -/

set_option autoImplicit false

namespace Sys2Proof.Machine

/-- Once a run has no room left, its calls produce nothing. -/
theorem runRooms_zero {h : List InflateCall} (hr : RunRooms 0 h) : ∀ d ∈ h, d.answer.output = [] := by
  induction h with
  | nil => simp
  | cons c h ih =>
    obtain ⟨hroom, hb, hr⟩ := hr
    have h0 : c.answer.output = [] := List.length_eq_zero_iff.1 (by have := hb.2; omega)
    rw [Nat.zero_sub] at hr
    intro d hd
    rcases List.mem_cons.1 hd with rfl | hd
    · exact h0
    · exact ih hr d hd

/-- The last status of a session with a call before it. -/
theorem lastStatus_tail {c : InflateCall} {h : List InflateCall} (hne : h ≠ []) : lastStatus (c :: h) = lastStatus h := by
  obtain ⟨d, h, rfl⟩ := List.exists_cons_of_ne_nil hne
  simp [lastStatus, List.getLast?_cons_cons]

/-- In an IDAT run that ends `complete`, as the end check R172 demands, room never ran out: INFLATE_SPLIT's premise
holds of it, whether or not it fills SLB. -/
theorem roomSufficed_of_run {h : List InflateCall} {room : Nat} (hr : RunRooms room h)
    (hlast : lastStatus h = some .complete) : RoomSufficed h := by
  induction h generalizing room with
  | nil => trivial
  | cons c h ih =>
    obtain ⟨hroom, hb, hrest⟩ := hr
    refine ⟨?_, ?_⟩
    · by_cases hlt : c.answer.output.length < c.room
      · exact .inl hlt
      · rw [show room - c.answer.output.length = 0 by omega] at hrest
        exact .inr ⟨runRooms_zero hrest, hlast⟩
    · by_cases hne : h = []
      · subst hne; trivial
      · exact ih hrest (by rw [← lastStatus_tail hne, hlast])

/-- Below 2^32 − 1 the chunk count grows by exactly 1. -/
theorem nextIdatCount_toNat {s : State} (h : s.regs.idatCount.toNat < 2 ^ 32 - 1) :
    (nextIdatCount s).toNat = s.regs.idatCount.toNat + 1 := by
  have hne : s.regs.idatCount ≠ 0xFFFFFFFF#32 := by
    intro he
    simp [he] at h
  rw [nextIdatCount, if_neg hne]
  simp
  omega

/-- Everything feeding one payload to the inflater can do (R170). -/
theorem feedInflater_eq (p : List Byte) (s : State) :
    let a := inflateAnswer s p (idatRoom s.regs)
    let called := inflateCalled a.status s
    let wrote := setFrOut (s.regs.frOut + BitVec.ofNat 32 a.output.length)
      (memWrite called .slb s.regs.frOut.toNat a.output)
    feedInflater p s =
      if a.status = .error then .raised .compressionError called
      else if a.consumed ≠ p.length then .raised .compressionError wrote
      else .ok () (setIdatCount
        (if s.regs.idatCount = 0xFFFFFFFF#32 then Config.idatCountBeyond called.inflater.drawn
         else s.regs.idatCount + 1#32) wrote) := by
  intro a called wrote
  have hcount : nextIdatCount wrote =
      if s.regs.idatCount = 0xFFFFFFFF#32 then Config.idatCountBeyond called.inflater.drawn
      else s.regs.idatCount + 1#32 := by
    simp [nextIdatCount, wrote, called, setFrOut, inflateCalled]
  have hfeed : feedInflater p s =
      (require (a.status != .error) .compressionError called).andThen fun _ s =>
      (require (a.consumed == p.length) .compressionError (bufferOutput a.output s)).andThen fun _ s =>
        .ok () (setIdatCount (nextIdatCount s) s) := rfl
  have hwrote : bufferOutput a.output called = wrote := by
    simp [bufferOutput, wrote, called, inflateCalled]
  rw [hfeed, ← hcount]
  by_cases he : a.status = .error <;> by_cases hc : a.consumed = p.length <;>
    simp [he, hc, hwrote, require_andThen]

end Sys2Proof.Machine
end

