-- ==== Sys2Proof/Tests/Slice0.lean ====
section
/-! SUPPORT. Tests of the model against the worked examples and vectors of spec/95_test_vectors.md, each one
step on a small state, and the smoke test of WellFormed. -/

set_option autoImplicit false

namespace Sys2Proof.Machine.Test

/-- The state an outcome goes on with, if it goes on. -/
def after (o : Host.Outcome State Fault Refusal) : Option State :=
  match o with
  | .next s => some s
  | _ => none

/-- A block after power-on with small buffers. -/
def bare : State := { State.reset with params := ⟨64, 64, 64, 1000⟩ }

/-- A register of the state an outcome goes on with. -/
def reg (o : Host.Outcome State Fault Refusal) (r : Reg) : Option Word := (after o).map fun s => regRead s.regs r

/-- The first n bytes of a buffer of the state an outcome goes on with. -/
def bytes (o : Host.Outcome State Fault Refusal) (sp : Space) (n : Nat) : Option (List Byte) :=
  (after o).map fun s => memRead s sp 0 n

/-- Geometry registers written by the host. -/
def withGeometry (s : State) (w h : Word) (d ct : Byte) : State :=
  { s with regs := { s.regs with width := w, height := h, bitDepth := d, colorType := ct } }

/-- A configured block, as CONFIGURE commits it. -/
def configured (w h : Word) (d ct : Byte) : State :=
  let s := withGeometry bare w h d ct
  { s with regs := configureCommit s.regs }

/-- The state with bytes loaded into a buffer from offset 0. -/
def load (s : State) (sp : Space) (bs : List Byte) : State := memWrite s sp 0 bs

/-- The state with a chunk header latched. -/
def chunk (s : State) (len ty : Word) : State :=
  { s with regs := { s.regs with chunkLen := len, chunkType := ty } }

/-- The state with a finite source. -/
def feed (s : State) (bs : List Byte) : State := { s with source := .stream bs }

/-! ## WellFormed (30_encoding.md R93) -/

theorem test_filterRow_ft5_ill_formed : ¬ (Instr.filterRow 5#8).WellFormed := by decide
theorem test_filterAll_ft5_ill_formed : ¬ (Instr.filterAll 5#8).WellFormed := by decide
theorem test_filterAll_ft4_well_formed : (Instr.filterAll 4#8).WellFormed := by decide

/-! ## Decoding (30_encoding.md R91, R92; 95_test_vectors.md section 10) -/

theorem test_decode_nop : decodeTableWord 32 0x00000000 = some .nop := by decide
theorem test_decode_reset : decodeTableWord 32 0x01FFFFFF = some (.reset 0xFFFFFF#24) := by decide
theorem test_decode_configure : decodeTableWord 32 0x02000000 = some .configure := by decide
theorem test_decode_crcInit : decodeTableWord 32 0x10000000 = some .crcInit := by decide
theorem test_decode_crcType : decodeTableWord 32 0x11000000 = some .crcType := by decide
theorem test_decode_crcCsb : decodeTableWord 32 0x12000000 = some .crcCsb := by decide
theorem test_decode_crcCheck : decodeTableWord 32 0x13000000 = some .crcCheck := by decide
theorem test_decode_chunkHdr : decodeTableWord 32 0x20000000 = some .chunkHdr := by decide
theorem test_decode_chunkRead : decodeTableWord 32 0x21000000 = some .chunkRead := by decide
theorem test_decode_chunkSkip : decodeTableWord 32 0x22000000 = some .chunkSkip := by decide
theorem test_decode_chunkEmit : decodeTableWord 32 0x23000000 = some .chunkEmit := by decide
theorem test_decode_idatRun : decodeTableWord 32 0x24000000 = some .idatRun := by decide
theorem test_decode_idatEmit : decodeTableWord 32 0x25000000 = some .idatEmit := by decide
theorem test_decode_unfilterRow : decodeTableWord 32 0x30000000 = some .unfilterRow := by decide
theorem test_decode_unfilterAll : decodeTableWord 32 0x31000000 = some .unfilterAll := by decide
theorem test_decode_filterRow : decodeTableWord 32 0x32010000 = some (.filterRow 1#8) := by decide
theorem test_decode_filterAll : decodeTableWord 32 0x33040000 = some (.filterAll 4#8) := by decide
theorem test_decode_unpackRow : decodeTableWord 32 0x40000000 = some .unpackRow := by decide
theorem test_decode_unpackAll : decodeTableWord 32 0x41000000 = some .unpackAll := by decide
theorem test_decode_packRow : decodeTableWord 32 0x42000000 = some .packRow := by decide
theorem test_decode_packAll : decodeTableWord 32 0x43000000 = some .packAll := by decide

theorem test_decode_refusals :
    decode 0x00000001#32 = .error .illegalRsv ∧ decode 0x00010000#32 = .error .illegalArg ∧
    decode 0x03000000#32 = .error .reservedOpcode ∧ decode 0x14000000#32 = .error .reservedOpcode ∧
    decode 0x30010000#32 = .error .illegalArg ∧ decode 0x32050000#32 = .error .illegalArg ∧
    decode 0x33000001#32 = .error .illegalRsv ∧ decode 0x44000000#32 = .error .reservedOpcode ∧
    decode 0xFF000000#32 = .error .reservedOpcode := by
  refine ⟨?_, ?_, ?_, ?_, ?_, ?_, ?_, ?_, ?_⟩ <;> rfl

/-- The words of section 10 that are no commands, issued with STATUS = 0. -/
theorem test_illegal_word_status :
    (after (step { bare with host := [eventWR .cmd 0x33000001#32] })).map (fun s => statusWord s.regs.status)
      = some 0x00331101#32 := by decide

/-! ## CONFIGURE (section 3) -/

theorem test_configure_5x2_grey1 :
    (after (exec .configure (withGeometry bare 5#32 2#32 1#8 0#8))).map
      (fun s => (regRead s.regs .channels, regRead s.regs .stride, regRead s.regs .pitch, regRead s.regs .slbSize,
        regRead s.regs .pixSize, regRead s.regs .status, regRead s.regs .feLeft))
      = some (1#32, 1#32, 1#32, 4#32, 10#32, 2#32, 2#32) := by decide

theorem test_configure_indexed16_is_corrupted :
    reg (exec .configure (withGeometry bare 1#32 1#32 16#8 3#8)) .status = some 0x00020301#32 := by decide

/-! ## CRC (section 4) -/

theorem test_crc_check_value :
    crcFold 0xFFFFFFFF#32 [0x31#8, 0x32#8, 0x33#8, 0x34#8, 0x35#8, 0x36#8, 0x37#8, 0x38#8, 0x39#8] = 0x340BC6D9#32 := by
  decide +kernel

theorem test_crcInit :
    reg (exec .crcInit { bare with regs := { bare.regs with crcAcc := 0x12345678#32 } }) .crcAcc = some 0xFFFFFFFF#32 := by
  decide

theorem test_crcType_iend : reg (exec .crcType (chunk bare 0#32 0x49454E44#32)) .crcResult = some 0xAE426082#32 := by
  decide +kernel

/-- The example of R144: the CRC of the 1×1 IHDR chunk. -/
theorem test_crcCsb_ihdr :
    reg (exec .crcCsb (load (chunk { bare with regs := { bare.regs with crcAcc := 0x575E51F5#32 } } 13#32 0x49484452#32)
      .csb [0#8, 0#8, 0#8, 1#8, 0#8, 0#8, 0#8, 1#8, 8#8, 0#8, 0#8, 0#8, 0#8])) .crcResult = some 0x3A7E9B55#32 := by
  decide +kernel

/-- C5: CHUNK_LEN = CSB_CAP + 1. -/
theorem test_crcCsb_too_long : reg (exec .crcCsb (chunk bare 65#32 0#32)) .status = some 0x00120801#32 := by decide

/-- C3. -/
theorem test_crcCheck_mismatch :
    reg (exec .crcCheck { bare with regs := { bare.regs with crcAcc := 0x51BD9F7D#32, crcExpect := 0xAE426083#32 } }) .status
      = some 0x00130401#32 := by decide

/-- C6. -/
theorem test_crcCheck_after_reset : reg (exec .crcCheck bare) .status = some 0#32 := by decide

/-! ## Paeth and Average (section 5) -/

theorem test_paeth_table :
    paeth 0#8 0#8 0#8 = 0#8 ∧ paeth 10#8 20#8 0#8 = 20#8 ∧ paeth 20#8 10#8 0#8 = 20#8 ∧ paeth 1#8 2#8 3#8 = 1#8 ∧
    paeth 255#8 255#8 0#8 = 255#8 ∧ paeth 0#8 0#8 255#8 = 0#8 ∧ paeth 100#8 50#8 75#8 = 75#8 ∧
    paeth 0#8 255#8 128#8 = 128#8 ∧ paeth 7#8 3#8 5#8 = 5#8 ∧ paeth 0#8 0#8 5#8 = 0#8 := by decide

theorem test_average_truncates_and_does_not_wrap :
    pred .average 255#8 255#8 0#8 = 255#8 ∧ pred .average 255#8 0#8 0#8 = 127#8 ∧ pred .average 3#8 4#8 0#8 = 3#8 := by
  decide

/-! ## Filter decoder (section 6) -/

/-- Average on the wrapping rows, S = 1: the row of section 6. -/
theorem test_unfilterRow_average_wrap :
    unfilterRow .average 1 none [0xC8#8, 0x64#8, 0xFA#8] = [0xC8#8, 0xC8#8, 0x5E#8] ∧
    unfilterRow .average 1 (some [0xC8#8, 0xC8#8, 0x5E#8]) [0x64#8, 0xC8#8, 0x0A#8] = [0xC8#8, 0x90#8, 0x81#8] := by
  decide

/-- U1. -/
theorem test_unfilterRow_sub :
    bytes (exec .unfilterRow (load (configured 3#32 2#32 8#8 0#8) .slb [1#8, 10#8, 10#8, 10#8])) .slb 4
      = some [1#8, 10#8, 20#8, 30#8] := by decide

/-- U4: the rows before the unknown filter byte stay reconstructed. -/
theorem test_unfilterAll_unknown_filter :
    (after (exec .unfilterAll (load (configured 3#32 2#32 8#8 0#8) .slb
        [1#8, 10#8, 10#8, 10#8, 7#8, 0#8, 0#8, 0#8]))).map
      (fun s => (memRead s .slb 0 8, regRead s.regs .ufRow, regRead s.regs .status))
      = some ([1#8, 10#8, 20#8, 30#8, 7#8, 0#8, 0#8, 0#8], 1#32, 0x00310603#32) := by decide

/-- U2. -/
theorem test_unfilterAll_paeth :
    bytes (exec .unfilterAll (load (configured 3#32 2#32 8#8 0#8) .slb
        [4#8, 0x0A#8, 0x0A#8, 0x0A#8, 4#8, 0x05#8, 0x14#8, 0xA0#8])) .slb 8
      = some [4#8, 0x0A#8, 0x14#8, 0x1E#8, 4#8, 0x0F#8, 0x28#8, 0xC8#8] := by decide

/-! ## Filter encoder (section 7) -/

/-- E2, first command: only the last row is filtered. -/
theorem test_filterRow_last_row_first :
    (after (exec (.filterRow 4#8) (load (configured 3#32 2#32 8#8 0#8) .slb
        [0#8, 0x0A#8, 0x14#8, 0x1E#8, 0#8, 0x0F#8, 0x28#8, 0xC8#8]))).map
      (fun s => (memRead s .slb 0 8, regRead s.regs .feLeft))
      = some ([0#8, 0x0A#8, 0x14#8, 0x1E#8, 4#8, 0x05#8, 0x14#8, 0xA0#8], 1#32) := by decide

/-- E4: an ill-formed filter type takes the illegal-command error, as its word does. -/
theorem test_filterRow_ft5 : reg (exec (.filterRow 5#8) (configured 3#32 2#32 8#8 0#8)) .status = some 0x00321103#32 := by
  decide

/-- X0 = FF 01 80, X1 = 00 FF 07, ft = 3, S = 1. -/
theorem test_filterAll_average_wrap :
    bytes (exec (.filterAll 3#8) (load (configured 3#32 2#32 8#8 0#8) .slb
        [0#8, 0xFF#8, 0x01#8, 0x80#8, 0#8, 0x00#8, 0xFF#8, 0x07#8])) .slb 8
      = some [3#8, 0xFF#8, 0x82#8, 0x80#8, 3#8, 0x81#8, 0xFF#8, 0x48#8] := by decide

/-! ## Bit depth (section 8) -/

theorem test_unpackRow_depths :
    unpackRow 1 10 [0xB2#8, 0xFF#8] = [1#8, 0#8, 1#8, 1#8, 0#8, 0#8, 1#8, 0#8, 1#8, 1#8] ∧
    unpackRow 2 7 [0xAB#8, 0xCD#8] = [2#8, 2#8, 2#8, 3#8, 3#8, 0#8, 3#8] ∧
    unpackRow 4 3 [0xA5#8, 0xFF#8] = [0x0A#8, 0x05#8, 0x0F#8] ∧ unpackRow 8 3 [7#8, 8#8, 9#8] = [7#8, 8#8, 9#8] := by
  decide

theorem test_packRow_depths :
    packRow 1 2 10 [1#8, 0#8, 1#8, 1#8, 0#8, 0#8, 1#8, 0#8, 1#8, 1#8] = [0xB2#8, 0xC0#8] ∧
    packRow 2 2 5 [1#8, 2#8, 3#8, 0#8, 1#8] = [0x6C#8, 0x40#8] ∧ packRow 4 2 3 [1#8, 2#8, 3#8] = [0x12#8, 0x30#8] := by
  decide

/-- B1. -/
theorem test_unpackRow_command :
    (after (exec .unpackRow (load (configured 10#32 1#32 1#8 0#8) .slb [0#8, 0xB2#8, 0xC0#8]))).map
      (fun s => (memRead s .pix 0 10, regRead s.regs .upRow))
      = some ([1#8, 0#8, 1#8, 1#8, 0#8, 0#8, 1#8, 0#8, 1#8, 1#8], 1#32) := by decide

/-- B2. -/
theorem test_unpackAll_command :
    bytes (exec .unpackAll (load (configured 3#32 2#32 2#8 0#8) .slb [0#8, 0xC8#8, 0#8, 0x1B#8])) .pix 6
      = some [3#8, 0#8, 2#8, 0#8, 1#8, 2#8] := by decide

/-- R244's example. -/
theorem test_packRow_command :
    bytes (exec .packRow (load (configured 10#32 1#32 1#8 0#8) .pix
        [1#8, 0#8, 1#8, 1#8, 0#8, 0#8, 1#8, 0#8, 1#8, 1#8])) .slb 3 = some [0#8, 0xB2#8, 0xC0#8] := by decide

/-- B4. -/
theorem test_packAll_depth4 :
    bytes (exec .packAll (load (configured 3#32 2#32 4#8 0#8) .pix [0x0A#8, 5#8, 0x0F#8, 1#8, 2#8, 3#8])) .slb 6
      = some [0#8, 0xA5#8, 0xF0#8, 0#8, 0x12#8, 0x30#8] := by decide

/-- B5: the row of the sample out of range is not written. -/
theorem test_packAll_sample_out_of_range :
    (after (exec .packAll (load (load (configured 3#32 2#32 2#8 0#8) .pix [3#8, 0#8, 2#8, 1#8, 4#8, 0#8]) .slb
        [9#8, 9#8, 9#8, 9#8]))).map (fun s => (memRead s .slb 0 4, regRead s.regs .pkRow, regRead s.regs .status))
      = some ([0#8, 0xC8#8, 9#8, 9#8], 1#32, 0x00431203#32) := by decide

/-! ## Framer (section 9) -/

/-- F1. -/
theorem test_chunkHdr :
    (after (exec .chunkHdr (feed bare [0#8, 0#8, 0#8, 0x0D#8, 0x49#8, 0x48#8, 0x44#8, 0x52#8]))).map
      (fun s => (regRead s.regs .chunkLen, regRead s.regs .chunkType, regRead s.regs .inPos))
      = some (13#32, 0x49484452#32, 8#32) := by decide

/-- F2. -/
theorem test_chunkHdr_short :
    (after (exec .chunkHdr (feed bare [0#8, 0#8, 0#8]))).map
      (fun s => (regRead s.regs .status, regRead s.regs .inPos, regRead s.regs .chunkType))
      = some (0x00200101#32, 3#32, 0#32) := by decide

/-- F3. -/
theorem test_chunkRead_ihdr :
    (after (exec .chunkRead (feed (chunk bare 13#32 0x49484452#32)
        [0#8, 0#8, 0#8, 3#8, 0#8, 0#8, 0#8, 2#8, 8#8, 0#8, 0#8, 0#8, 0#8, 0xB8#8, 0x1F#8, 0x39#8, 0xC6#8]))).map
      (fun s => (memRead s .csb 0 5, regRead s.regs .crcExpect, regRead s.regs .crcAcc, regRead s.regs .status,
        regRead s.regs .inPos))
      = some ([0#8, 0#8, 0#8, 3#8, 0#8], 0xB81F39C6#32, 0x47E0C639#32, 0#32, 17#32) := by decide +kernel

/-- F5: the bytes received stay in CSB. -/
theorem test_chunkRead_short_payload :
    (after (exec .chunkRead (feed (load (chunk bare 13#32 0x49484452#32) .csb [7#8, 7#8, 7#8, 7#8, 7#8, 7#8])
        [0#8, 0#8, 0#8, 3#8, 0#8]))).map
      (fun s => (memRead s .csb 0 6, regRead s.regs .status, regRead s.regs .inPos))
      = some ([0#8, 0#8, 0#8, 3#8, 0#8, 7#8], 0x00210101#32, 5#32) := by decide

/-- F9. -/
theorem test_chunkSkip :
    exec .chunkSkip (feed (chunk bare 3#32 0#32) [0x61#8, 0x62#8, 0x63#8, 0#8, 0#8, 0#8, 0#8])
      = .next { feed (chunk bare 3#32 0#32) [] with
          regs := { (chunk bare 3#32 0#32).regs with inPos := 7#32 } } := by rfl

/-- F10. -/
theorem test_chunkSkip_short :
    (after (exec .chunkSkip (feed (chunk bare 3#32 0#32) [0x61#8, 0x62#8]))).map
      (fun s => (regRead s.regs .status, regRead s.regs .inPos)) = some (0x00220101#32, 2#32) := by decide

/-- F11. -/
theorem test_chunkEmit_plte :
    (after (exec .chunkEmit (load { chunk bare 3#32 0x504C5445#32 with sink := ⟨[some 15], 0⟩ } .csb
        [0xFF#8, 0#8, 0#8]))).map (fun s => (s.out, regRead s.regs .outPos, regRead s.regs .crcAcc))
      = some ([0#8, 0#8, 0#8, 3#8, 0x50#8, 0x4C#8, 0x54#8, 0x45#8, 0xFF#8, 0#8, 0#8, 0x19#8, 0xE2#8, 0x09#8, 0x37#8],
          15#32, 0xE61DF6C8#32) := by decide +kernel

/-- F12. -/
theorem test_chunkEmit_short :
    (after (exec .chunkEmit { chunk bare 0#32 0x49454E44#32 with sink := ⟨[some 4], 0⟩ })).map
      (fun s => (regRead s.regs .status, regRead s.regs .outPos, s.out))
      = some (0x00230101#32, 4#32, [0#8, 0#8, 0#8, 0#8]) := by decide +kernel

/-- The block of F13 after CHUNK_HDR: 3×2 greyscale 8, one IDAT chunk of 19 bytes, then the IEND header. -/
def f13 : State :=
  { feed (chunk (configured 3#32 2#32 8#8 0#8) 19#32 0x49444154#32)
      [0x78#8, 0x01#8, 0x01#8, 0x08#8, 0x00#8, 0xF7#8, 0xFF#8, 0x04#8, 0x0A#8, 0x0A#8, 0x0A#8, 0x04#8, 0x05#8, 0x14#8,
       0xA0#8, 0x01#8, 0xC3#8, 0x00#8, 0xE0#8, 0x07#8, 0xF8#8, 0x04#8, 0x35#8,
       0#8, 0#8, 0#8, 0#8, 0x49#8, 0x45#8, 0x4E#8, 0x44#8] with
    inflater := ⟨[⟨19, [4#8, 0x0A#8, 0x0A#8, 0x0A#8, 4#8, 5#8, 0x14#8, 0xA0#8], .complete⟩], 0, 0⟩ }

/-- F13. -/
theorem test_idatRun_one_chunk :
    (after (exec .idatRun f13)).map
      (fun s => (memRead s .slb 0 8, regRead s.regs .frOut, regRead s.regs .idatCount, regRead s.regs .status,
        regRead s.regs .chunkType, s.running))
      = some ([4#8, 0x0A#8, 0x0A#8, 0x0A#8, 4#8, 5#8, 0x14#8, 0xA0#8], 8#32, 1#32, 0x00000006#32, 0x49454E44#32, false) := by
  decide +kernel

/-- F17: the inflater answers `error`. -/
theorem test_idatRun_inflate_error :
    (after (exec .idatRun { f13 with inflater := ⟨[⟨19, [], .error⟩], 0, 0⟩ })).map
      (fun s => (regRead s.regs .status, regRead s.regs .idatCount, s.running)) = some (0x0024050B#32, 0#32, false) := by
  decide +kernel

/-- F22. -/
theorem test_idatEmit :
    (after (exec .idatEmit (load { configured 10#32 2#32 1#8 0#8 with
        deflater := ⟨[⟨[0x78#8, 1#8, 1#8, 6#8, 0#8, 0xF9#8, 0xFF#8, 1#8, 0xB2#8, 0x0E#8, 1#8, 0x55#8, 0xAB#8, 5#8, 0x16#8,
          1#8, 0xC3#8], true⟩], 0⟩
        sink := ⟨[some 29], 0⟩ } .slb [1#8, 0xB2#8, 0x0E#8, 1#8, 0x55#8, 0xAB#8]))).map
      (fun s => (s.out.drop 25, regRead s.regs .chunkLen, regRead s.regs .chunkType, regRead s.regs .crcAcc,
        regRead s.regs .outPos))
      = some ([0x8A#8, 0x44#8, 0x39#8, 0x05#8], 17#32, 0x49444154#32, 0x75BBC6FA#32, 29#32) := by decide +kernel

/-- F23. -/
theorem test_idatEmit_deflate_error :
    reg (exec .idatEmit { configured 10#32 2#32 1#8 0#8 with deflater := ⟨[⟨[], false⟩], 0⟩ }) .status
      = some 0x00250503#32 := by decide

/-! ## Control, host accesses and steps (sections 3 and 10; 20_memory.md R65 to R68) -/

theorem test_nop_ignored_in_error : exec .nop (errorEntry 0x21#8 .crcError bare) = .next (errorEntry 0x21#8 .crcError bare) := by
  rfl

/-- R121's example: STATUS after a CRC error, then RESET. -/
theorem test_reset_clears_error :
    reg (.next (errorEntry 0x21#8 .crcError bare)) .status = some 0x00210401#32 ∧
    reg (exec (.reset 0xABCDEF#24) (errorEntry 0x21#8 .crcError bare)) .status = some 0#32 := by decide

/-- Section 3: writing WIDTH with the same value unconfigures the block. -/
theorem test_geometry_write :
    (after (step { configured 3#32 2#32 8#8 0#8 with host := [eventWR .width 3#32] })).map
      (fun s => (regRead s.regs .status, regRead s.regs .pitch, regRead s.regs .slbSize, regRead s.regs .feLeft))
      = some (0#32, 0#32, 0#32, 2#32) := by decide

theorem test_host_buffer_write_then_read :
    (after (Host.Core.run Sys2Proof.core 2 { bare with host := [eventWRB .pix 5#32 0xA7#8, eventRDB .pix 5#32] })).map
      (fun s => s.reply) = some (some 0xA7#32) := by decide

/-- The refusal an outcome ends in, if it ends so. -/
def refusal (o : Host.Outcome State Fault Refusal) : Option Refusal :=
  match o with
  | .refused r => some r
  | _ => none

theorem test_host_refusals :
    refusal (step { bare with host := [.read 0x0000004A#32 .word] }) = some .registerAccessForm ∧
    refusal (step { bare with host := [.read 0x00000004#32 .byte] }) = some .registerAccessForm ∧
    refusal (step { bare with host := [.read 0x00000100#32 .word] }) = some .unmappedAddress ∧
    refusal (step { bare with host := [.write 0x10000040#32 .byte 0#32] }) = some .beyondCapacity ∧
    refusal (step { bare with host := [.write 0x3000003F#32 .word 0#32] }) = some .bufferAccessWidth := by decide

/-- A source that never answers leaves the block stuck; power-on alone leaves that state (R313). -/
theorem test_hang :
    (after (exec .chunkHdr { bare with source := .oracle [none] 0 })).map (fun s => s.hung) = some (some .source) ∧
    after (step { bare with hung := some .source }) = none ∧
    (after (step { bare with hung := some .source, host := [.powerOn] })).map (fun s => s.hung) = some none := by decide

/-- After the power-on that ends a hang the next request is a fresh draw; without a hang the streams stay (log entry 16). -/
theorem test_powerOn_gives_up_the_request :
    (powerOnReset { bare with hung := some .source, source := .oracle [none, some [1#8]] 0 }).source = .oracle [some [1#8]] 1 ∧
    (powerOnReset { bare with hung := some .sink, sink := ⟨[none, some 1], 0⟩ }).sink = ⟨[some 1], 1⟩ ∧
    (powerOnReset { bare with source := .oracle [none] 0 }).source = .oracle [none] 0 := by decide

/-- The table of R271, and a code that is not in it. -/
theorem test_error_table :
    [0x00#8, 0x01#8, 0x02#8, 0x03#8, 0x04#8, 0x05#8, 0x06#8, 0x07#8, 0x08#8, 0x09#8, 0x10#8, 0x11#8, 0x12#8].map codeDescription
      = ["no error", "short read or write on the byte stream", "bad PNG signature", "corrupted image data",
         "chunk CRC mismatch", "compression stream error", "unknown scanline filter type", "feature not supported",
         "buffer capacity exceeded", "invalid argument", "command issued out of sequence", "illegal command word",
         "sample value exceeds bit depth"].map some ∧
    codeDescription 0x0A#8 = none := ⟨rfl, rfl⟩

/-- Every row of the opcode table runs as the first command after reset. -/
theorem test_first_command_runs :
    (after (step (State.reset.withFetchWord 32 0x24000000))).map (fun s => statusWord s.regs.status)
      = some 0x00241001#32 := by decide

end Sys2Proof.Machine.Test
end

