-- ==== Sys2Proof/Tests/Witnesses.lean ====
section
/-! SUPPORT. For every obligation with hypotheses, a concrete state and operands that meet all of them together,
clause by clause and at the boundary values of the ranges. -/

set_option autoImplicit false

namespace Sys2Proof.Machine.Test

/-! ## States -/

/-- A configured 3×2 greyscale image of depth 8: P = 3, SLB_SIZE = 8, PIX_SIZE = 6. -/
def conf : State := configured 3#32 2#32 8#8 0#8

/-- The same with six samples in PIX and eight bytes in SLB. -/
def filled : State :=
  load (load conf .pix [1#8, 2#8, 3#8, 4#8, 5#8, 255#8]) .slb [4#8, 10#8, 20#8, 30#8, 0#8, 15#8, 40#8, 200#8]

/-- A configured 3×2 greyscale image of depth 2 with the sample 4 in its second row. -/
def deep : State := load (configured 3#32 2#32 2#8 0#8) .pix [3#8, 0#8, 2#8, 1#8, 4#8, 0#8]

/-- The descriptor of `filled`, not configured. -/
def described : State := { filled with regs := invalidateGeometry filled.regs }

/-- A block with an error pending. -/
def stuckOnError : State := errorEntry 0x21#8 .crcError bare

/-- A run in progress. -/
def inRun : State := beginRun f13

theorem filled_inv : filled.Inv where
  legal := by decide
  slbWf := by decide
  pixWf := by decide
  csbWf := by decide
  slbWithin := by unfold Within; decide
  pixWithin := by unfold Within; decide
  csbWithin := by unfold Within; decide
  configured := fun _ => by constructor <;> decide
  underived := fun h => absurd h (by decide)
  noError := by decide
  error := by decide
  failed := by decide
  framed := by decide
  noSession := by decide
  runCfg := by decide
  runErr := by decide
  runIdle := by decide
  runSession := by decide
  runTag := by decide

theorem described_inv : described.Inv where
  legal := by decide
  slbWf := by decide
  pixWf := by decide
  csbWf := by decide
  slbWithin := by unfold Within; decide
  pixWithin := by unfold Within; decide
  csbWithin := by unfold Within; decide
  configured := fun h => absurd h (by decide)
  underived := fun _ => by constructor <;> decide
  noError := by decide
  error := by decide
  failed := by decide
  framed := by decide
  noSession := by decide
  runCfg := by decide
  runErr := by decide
  runIdle := by decide
  runSession := by decide
  runTag := by decide

theorem stuckOnError_inv (host : List HostEvent) : State.Inv { stuckOnError with host := host } where
  legal := by show bare.params.Legal; decide
  slbWf := List.Pairwise.nil
  pixWf := List.Pairwise.nil
  csbWf := List.Pairwise.nil
  slbWithin := by intro c hc; cases hc
  pixWithin := by intro c hc; cases hc
  csbWithin := by intro c hc; cases hc
  configured := by intro h; cases h
  underived := fun _ => ⟨rfl, rfl, rfl, rfl, rfl⟩
  noError := by intro h; cases h
  error := fun _ => by show (0x04#8 : Byte) ∈ raisedCodes; decide
  failed := by intro h; cases h
  framed := by intro h; cases h
  noSession := fun _ => rfl
  runCfg := by intro h; cases h
  runErr := by intro h; cases h
  runIdle := by intro h; cases h
  runSession := by intro h; cases h
  runTag := by intro h; cases h

/-- A finite source delivers its next bytes. -/
theorem delivers_stream (p rest : List Byte) (n : Nat) (h : p.length = n) :
    Delivers (.stream (p ++ rest)) n p (.stream rest) := by
  unfold Delivers
  split
  · rename_i h0
    have : p = [] := List.length_eq_zero_iff.1 (h.trans h0)
    simp [this]
  · subst h
    simp [sourceAnswer, sourceNext]

/-- A finite source that ends early delivers what it has. -/
theorem delivers_short (p : List Byte) (n : Nat) (h : p.length < n) : Delivers (.stream p) n p (.stream []) := by
  have : n ≠ 0 := by omega
  simp [Delivers, this, sourceAnswer, sourceNext, h.le]

/-! ## Encoding and steps -/

theorem witness_DecodeUndoesEncode : (Instr.filterRow 4#8).WellFormed ∧ (Instr.reset 0xFFFFFF#24).WellFormed := by decide

theorem witness_EncodeUndoesDecode :
    decode 0x33040000#32 = .ok (.filterAll 4#8) ∧ decode 0x01FFFFFF#32 = .ok (.reset 0xFFFFFF#24) := ⟨rfl, rfl⟩

theorem witness_IllegalWordsAreRefused :
    (0x01FFFFFF#32 : Word).toNat / 2 ^ 24 = 0x01 ∧ IllegalWord 0x32050000#32 ∧ IllegalWord 0x00000001#32 ∧
    IllegalWord 0x30010000#32 ∧ IllegalWord 0x44000000#32 := by
  unfold IllegalWord
  decide

theorem witness_IllegalWordRaisesIllegalCommand :
    IllegalWord 0x33050000#32 ∧ bare.regs.status.err = false ∧ stuckOnError.regs.status.err = true := by
  unfold IllegalWord
  decide

theorem witness_StepRunsTheWrittenCommand :
    bare.Idle ∧ bare.host = [] ∧ decode 0x24000000#32 = .ok .idatRun ∧
    State.Idle { bare with host := [.write cmdAddress .word 0x24000000#32] } ∧
    State.Idle { bare with host := [.read 0#32 .word] } := ⟨⟨rfl, rfl⟩, rfl, rfl, ⟨rfl, rfl⟩, ⟨rfl, rfl⟩⟩

/-! ## Control, errors, configuration -/

theorem witness_StickyErrorIgnoresCommands :
    stuckOnError.regs.status.err = true ∧ (∀ b, Instr.idatRun ≠ .reset b) ∧ IllegalWord 0xFF000000#32 ∧
    Reg.status ≠ .cmd ∧ (63#32 : Word).toNat < stuckOnError.params.cap .slb ∧ stuckOnError.params.Legal := by
  refine ⟨rfl, by simp, by unfold IllegalWord; decide, by decide, by decide, by decide⟩

/-- A command that raises its error, and one that raises none. -/
theorem witness_CommandsRaiseOnlyTheirErrors :
    Instr.crcCsb.WellFormed ∧ (chunk bare 65#32 0#32).regs.status.err = false ∧
    exec .crcCsb (chunk bare 65#32 0#32) = .next (errorState 0x12#8 0x08#8 (chunk bare 65#32 0#32)) ∧
    (errorState 0x12#8 0x08#8 (chunk bare 65#32 0#32)).regs.status.err = true ∧ exec .nop bare = .next bare ∧
    (∀ b, Instr.crcCsb ≠ .reset b) ∧ Instr.crcCsb ≠ .configure ∧ Instr.crcCsb ≠ .idatRun :=
  ⟨rfl, rfl, by rfl, rfl, by rfl, by simp, by simp, by simp⟩

theorem witness_CommandsRaiseOnlyTheirErrors_filter : 4 < (5#8 : Byte).toNat ∧ conf.regs.status.err = false := by decide

theorem witness_ConfigureRejects_corrupt :
    bare.regs.status.err = false ∧ CorruptDescriptor bare.regs ∧
    CorruptDescriptor (withGeometry bare 1#32 1#32 16#8 3#8).regs := by
  unfold CorruptDescriptor
  decide

theorem witness_ConfigureRejects_unsupported :
    ¬ CorruptDescriptor (withGeometry bare 1#32 1#32 16#8 0#8).regs ∧
    UnsupportedDescriptor (withGeometry bare 1#32 1#32 16#8 0#8).regs := by
  unfold CorruptDescriptor UnsupportedDescriptor
  decide

/-- SLB_SIZE would be 65 of 64. -/
theorem witness_ConfigureRejects_memory :
    ¬ CorruptDescriptor (withGeometry bare 4#32 13#32 8#8 0#8).regs ∧
    ¬ UnsupportedDescriptor (withGeometry bare 4#32 13#32 8#8 0#8).regs ∧
    bare.params.slbCap + 1 = geomSlb (withGeometry bare 4#32 13#32 8#8 0#8).regs := by
  unfold CorruptDescriptor UnsupportedDescriptor
  decide

/-- SLB_SIZE is 64 of 64. -/
theorem witness_ConfigureDerivesAndCommits :
    (withGeometry bare 3#32 16#32 8#8 0#8).regs.status.err = false ∧ bare.params.Legal ∧
    ¬ CorruptDescriptor (withGeometry bare 3#32 16#32 8#8 0#8).regs ∧
    ¬ UnsupportedDescriptor (withGeometry bare 3#32 16#32 8#8 0#8).regs ∧
    geomSlb (withGeometry bare 3#32 16#32 8#8 0#8).regs = bare.params.slbCap ∧
    geomPix (withGeometry bare 3#32 16#32 8#8 0#8).regs ≤ bare.params.pixCap := by
  unfold CorruptDescriptor UnsupportedDescriptor
  decide

theorem witness_OnlyResetAndConfigureChangeGeometry :
    (∀ b, Instr.crcInit ≠ .reset b) ∧ Instr.crcInit ≠ .configure ∧
    exec .crcInit bare = .next { bare with regs := { bare.regs with crcAcc := 0xFFFFFFFF#32 } } := ⟨by simp, by simp, rfl⟩

/-! ## CRC -/

theorem witness_CrcInitAndTypeUpdateTheAccumulator : (chunk bare 0#32 0x49454E44#32).regs.status.err = false := rfl

theorem witness_CrcCsbFoldsThePayload :
    (chunk bare 64#32 0#32).regs.status.err = false ∧
    (chunk bare 64#32 0#32).regs.chunkLen.toNat = bare.params.csbCap ∧
    bare.params.csbCap + 1 = (chunk bare 65#32 0#32).regs.chunkLen.toNat := by decide

theorem witness_CrcCheckCompares :
    bare.regs.crcAcc ^^^ 0xFFFFFFFF#32 = bare.regs.crcExpect ∧
    (withGeometry { bare with regs := { bare.regs with crcExpect := 1#32 } } 0#32 0#32 0#8 0#8).regs.crcAcc ^^^ 0xFFFFFFFF#32
      ≠ (1#32 : Word) := by decide

theorem witness_CrcDetectsSingleBitFlips : 0 < [0x61#8].length ∧ 7 < 8 ∧ 31 < 32 := by decide

/-! ## Framer -/

theorem witness_ChunkHdrLatchesHeader :
    bare.regs.status.err = false ∧
    Delivers (.stream [0#8, 0#8, 0#8, 13#8, 0x49#8, 0x48#8, 0x44#8, 0x52#8]) 8
      [0#8, 0#8, 0#8, 13#8, 0x49#8, 0x48#8, 0x44#8, 0x52#8] (.stream []) ∧
    Delivers (.stream [0#8, 0#8, 0#8, 13#8, 0x49#8, 0x48#8, 0x44#8]) 8
      [0#8, 0#8, 0#8, 13#8, 0x49#8, 0x48#8, 0x44#8] (.stream []) :=
  ⟨rfl, delivers_stream [_, _, _, _, _, _, _, _] [] 8 rfl, delivers_short _ _ (by decide)⟩

/-- CHUNK_LEN = CSB_CAP + 1; a payload one byte short; a CRC field one byte short. -/
theorem witness_ChunkReadReadsAndChecks_errors :
    bare.params.csbCap < (chunk bare 65#32 0#32).regs.chunkLen.toNat ∧
    Delivers (.stream [1#8, 2#8]) (chunk bare 3#32 0#32).regs.chunkLen.toNat [1#8, 2#8] (.stream []) ∧
    Delivers (.stream [1#8, 2#8, 3#8, 9#8, 9#8, 9#8]) (chunk bare 3#32 0#32).regs.chunkLen.toNat [1#8, 2#8, 3#8]
      (.stream [9#8, 9#8, 9#8]) ∧
    Delivers (.stream [9#8, 9#8, 9#8]) 4 [9#8, 9#8, 9#8] (.stream []) :=
  ⟨by decide, delivers_short _ _ (by decide), delivers_stream [_, _, _] _ _ rfl, delivers_short _ _ (by decide)⟩

/-- An empty payload with a CRC that fits (R166's example) and with one that does not. -/
theorem witness_ChunkReadReadsAndChecks_crc :
    (chunk bare 0#32 0x49454E44#32).regs.chunkLen.toNat ≤ bare.params.csbCap ∧
    Delivers (.stream [0xAE#8, 0x42#8, 0x60#8, 0x82#8]) 0 [] (.stream [0xAE#8, 0x42#8, 0x60#8, 0x82#8]) ∧
    Delivers (.stream [0xAE#8, 0x42#8, 0x60#8, 0x82#8]) 4 [0xAE#8, 0x42#8, 0x60#8, 0x82#8] (.stream []) ∧
    chunkCrc 0x49454E44#32 [] = unBe32 [0xAE#8, 0x42#8, 0x60#8, 0x82#8] ∧
    chunkCrc 0x49454E44#32 [] ≠ unBe32 [0xAE#8, 0x42#8, 0x60#8, 0x83#8] :=
  ⟨by decide, delivers_stream [] _ _ rfl, delivers_stream [_, _, _, _] [] _ rfl, by decide +kernel, by decide +kernel⟩

theorem witness_ChunkSkipDiscards :
    Delivers (.stream [1#8, 2#8, 3#8, 4#8]) ((chunk bare 0#32 0#32).regs.chunkLen.toNat + 4) [1#8, 2#8, 3#8, 4#8] (.stream []) ∧
    Delivers (.stream [1#8, 2#8, 3#8]) ((chunk bare 0#32 0#32).regs.chunkLen.toNat + 4) [1#8, 2#8, 3#8] (.stream []) :=
  ⟨delivers_stream [_, _, _, _] [] _ rfl, delivers_short _ _ (by decide)⟩

/-- A sink that takes a whole chunk of 12 bytes, and one that takes 11. -/
theorem witness_sinkAnswer (bs : List Byte) (h : bs.length = 12) :
    sinkAnswer ⟨[some 12], 0⟩ bs = some bs.length ∧ sinkAnswer ⟨[some 11], 0⟩ bs = some 11 ∧ 11 < bs.length := by
  simp [sinkAnswer, h]

theorem witness_ChunkEmitWritesOneChunk :
    bare.params.csbCap < (chunk bare 65#32 0#32).regs.chunkLen.toNat ∧
    (chunk bare 0#32 0x49454E44#32).regs.chunkLen.toNat ≤ bare.params.csbCap ∧
    (be32 0#32 ++ be32 0x49454E44#32 ++ memRead (chunk bare 0#32 0x49454E44#32) .csb 0 0 ++
      be32 (chunkCrc 0x49454E44#32 [])).length = 12 := ⟨by decide, by decide, rfl⟩

/-- A deflater that fails, and one that answers no byte, so that the chunk has 12 bytes. -/
theorem witness_IdatEmitWritesOneChunk :
    bare.regs.status.cfg = false ∧ conf.regs.status.cfg = true ∧ conf.regs.status.err = false ∧
    (deflateAnswer { conf with deflater := ⟨[⟨[], false⟩], 0⟩ } [] 1000).ok = false ∧
    deflateAnswer { conf with deflater := ⟨[⟨[], true⟩], 0⟩ } [] 1000 = ⟨[], true⟩ :=
  ⟨rfl, rfl, rfl, rfl, rfl⟩

theorem witness_IdatRunStarts :
    (chunk bare 0#32 0x49444154#32).regs.status.cfg = false ∧
    (conf.regs.status.cfg = true ∧ conf.regs.chunkType ≠ 0x49444154#32) ∧
    (let done := finishRun f13
     done.regs.status.cfg = true ∧ done.regs.chunkType = 0x49444154#32 ∧ done.regs.status.frState ≠ .idle) ∧
    (f13.regs.status.err = false ∧ f13.regs.status.cfg = true ∧ f13.regs.chunkType = 0x49444154#32 ∧
      f13.regs.status.frState = .idle) := by decide

/-- The payload and CRC field of f13's IDAT chunk. -/
def f13Payload : List Byte :=
  [0x78#8, 0x01#8, 0x01#8, 0x08#8, 0x00#8, 0xF7#8, 0xFF#8, 0x04#8, 0x0A#8, 0x0A#8, 0x0A#8, 0x04#8, 0x05#8, 0x14#8,
   0xA0#8, 0x01#8, 0xC3#8, 0x00#8, 0xE0#8]
def f13Crc : List Byte := [0x07#8, 0xF8#8, 0x04#8, 0x35#8]
def f13Header : List Byte := [0#8, 0#8, 0#8, 0#8, 0x49#8, 0x45#8, 0x4E#8, 0x44#8]

/-- The whole chunk of f13, as IDAT_RUN and a turn of its loop read it. -/
theorem witness_IdatTurnTakesOneChunk_chunk :
    f13.source = .stream (f13Payload ++ (f13Crc ++ f13Header)) ∧ f13.regs.chunkLen.toNat ≤ f13.params.csbCap ∧
    Delivers (.stream (f13Payload ++ (f13Crc ++ f13Header))) f13.regs.chunkLen.toNat f13Payload (.stream (f13Crc ++ f13Header)) ∧
    f13Payload.length = f13.regs.chunkLen.toNat ∧
    Delivers (.stream (f13Crc ++ f13Header)) 4 f13Crc (.stream f13Header) ∧ f13Crc.length = 4 ∧
    unBe32 f13Crc = chunkCrc 0x49444154#32 f13Payload ∧
    Delivers (.stream f13Header) 8 f13Header (.stream []) ∧ f13Header.length = 8 ∧
    unBe32 (f13Header.drop 4) ≠ 0x49444154#32 :=
  ⟨rfl, by decide, delivers_stream _ _ _ rfl, rfl, delivers_stream _ _ _ rfl, rfl, by decide +kernel,
   delivers_stream f13Header [] _ rfl, rfl, by decide⟩

/-- The inflater of f13 takes all of it, says `complete` and fills SLB. -/
theorem witness_IdatRunOfOneChunkCompletes :
    ∃ a rest, f13.inflater.script = a :: rest ∧ a.consumed = f13Payload.length ∧ a.status = .complete ∧
      a.output.length = f13.regs.slbSize.toNat := ⟨_, _, rfl, rfl, rfl, rfl⟩

/-- The ends of a turn: `error`; a byte not consumed; a short header; an IDAT header; the end check passed (with
f13's inflater) and, for an answer `more` or one byte too few, failed. -/
theorem witness_IdatTurnTakesOneChunk_ends :
    (inflateBound f13Payload 8 ⟨19, [], .error⟩).status = .error ∧
    (inflateBound f13Payload 8 ⟨18, [1#8], .more⟩).status ≠ .error ∧
    (inflateBound f13Payload 8 ⟨18, [1#8], .more⟩).consumed ≠ f13Payload.length ∧
    Delivers (.stream [0#8, 0#8, 0#8, 0#8, 0x49#8, 0x44#8, 0x41#8]) 8 [0#8, 0#8, 0#8, 0#8, 0x49#8, 0x44#8, 0x41#8] (.stream []) ∧
    unBe32 (List.drop 4 [0#8, 0#8, 0#8, 0#8, 0x49#8, 0x44#8, 0x41#8, 0x54#8]) = 0x49444154#32 ∧
    (inflateBound f13Payload 8 ⟨19, [1#8, 2#8, 3#8, 4#8, 5#8, 6#8, 7#8, 8#8], .more⟩).status ≠ .complete ∧
    (inflateBound f13Payload 8 ⟨19, [1#8, 2#8, 3#8, 4#8, 5#8, 6#8, 7#8], .complete⟩).output.length + 1 = f13.regs.slbSize.toNat :=
  ⟨by decide, by decide, by decide, delivers_short _ _ (by decide), by decide, by decide, by decide⟩

/-- IDAT_COUNT at its last value, and one below it, which grows by exactly 1. -/
theorem witness_IdatTurnTakesOneChunk_count :
    (setIdatCount 0xFFFFFFFF#32 inRun).regs.idatCount = 0xFFFFFFFF#32 ∧
    nextIdatCount (setIdatCount 0xFFFFFFFE#32 inRun) = 0xFFFFFFFF#32 := ⟨rfl, rfl⟩

/-- A run in progress with no power-on waiting; a turn that raises an error. -/
theorem witness_IdatRunErrorsLeaveFailed :
    inRun.hung = none ∧ inRun.running = true ∧ inRun.host.head? ≠ some .powerOn ∧
    State.regs { inRun with regs := { inRun.regs with chunkLen := 65#32 } } = { inRun.regs with chunkLen := 65#32 } ∧
    inRun.regs.status.err = false ∧
    (idatTurn { inRun with regs := { inRun.regs with chunkLen := 65#32 } }).regs.status.err = true := by
  refine ⟨rfl, rfl, by decide, rfl, rfl, by decide⟩

/-- A turn that finds another IDAT header: an empty chunk with its CRC, then a header, 12 bytes in all. -/
theorem witness_IdatTurnConsumesTheSource :
    (idatTurn { inRun with
      regs := { inRun.regs with chunkLen := 0#32 }
      source := .stream [0x35#8, 0xAF#8, 0x06#8, 0x1E#8, 0#8, 0#8, 0#8, 1#8, 0x49#8, 0x44#8, 0x41#8, 0x54#8]
      inflater := ⟨[⟨0, [], .more⟩], 0, 1⟩ }).running = true := by decide +kernel

theorem witness_IdatTurnStaysInTheBuffers :
    inRun.regs.frOut.toNat ≤ inRun.regs.slbSize.toNat ∧ inRun.regs.slbSize.toNat ≤ 8 ∧
    (setFrOut 8#32 inRun).regs.frOut.toNat = (setFrOut 8#32 inRun).regs.slbSize.toNat := by decide

/-! ## Filters -/

theorem witness_UnfilterRowRecurrence : 1 ≤ 1 ∧ 2 < [10#8, 20#8, 30#8].length ∧ 0 < [10#8].length := by decide

theorem witness_FilterRowResiduals : 0 < [10#8, 20#8].length ∧ 1 < [10#8, 20#8].length := by decide

theorem witness_UnfilterUndoesFilter : 1 ≤ 1 := by decide

theorem witness_UnfilterRowReconstructs :
    bare.regs.status.cfg = false ∧ (filled.regs.status.err = false ∧ filled.regs.status.cfg = true) ∧
    (setUfRow 2#32 filled).regs.height.toNat ≤ (setUfRow 2#32 filled).regs.ufRow.toNat ∧
    (setUfRow 1#32 filled).regs.ufRow.toNat < (setUfRow 1#32 filled).regs.height.toNat ∧
    4 < (readByte (load filled .slb [5#8]) .slb 0).toNat ∧ filterTypeOf (readByte filled .slb 0) = some .paeth ∧
    filterTypeOf (readByte filled .slb 4) = some .none := by decide

/-- k = HEIGHT with no bad row; k = 1 with a bad second row; k = 0 with a bad first row. -/
theorem witness_UnfilterAllRepeatsUnfilterRow :
    filled.regs.ufRow.toNat ≤ 2 ∧ 2 = filled.regs.height.toNat ∧
    (∀ i < 2, (readByte filled .slb (i * (filled.regs.pitch.toNat + 1))).toNat ≤ 4) ∧
    (readByte (load filled .slb [4#8, 0#8, 0#8, 0#8, 5#8]) .slb (0 * 4)).toNat ≤ 4 ∧
    4 < (readByte (load filled .slb [4#8, 0#8, 0#8, 0#8, 5#8]) .slb (1 * 4)).toNat ∧
    4 < (readByte (load filled .slb [255#8]) .slb (0 * 4)).toNat := by decide

theorem witness_FilterRowFilters :
    ((0#8 : Byte).toNat ≤ 4 ∧ (setFeLeft 0#32 filled).regs.feLeft = 0#32) ∧
    (filterTypeOf 4#8 = some .paeth ∧ filled.regs.status.cfg = true ∧ 1 ≤ (setFeLeft 1#32 filled).regs.feLeft.toNat) := by
  decide

theorem witness_FilterAllRepeatsFilterRow :
    (4#8 : Byte).toNat ≤ 4 ∧ bare.regs.status.cfg = false ∧ filled.regs.status.cfg = true ∧
    filled.regs.status.err = false := by decide

theorem witness_FilterThenUnfilterRestores :
    filled.Inv ∧ filled.regs.status.err = false ∧ filled.regs.status.cfg = true ∧
    filled.regs.feLeft = filled.regs.height ∧ filled.regs.ufRow = 0#32 ∧ (4#8 : Byte).toNat ≤ 4 ∧
    [4#8, 0#8].length = filled.regs.height.toNat ∧ ∀ ft ∈ [4#8, 0#8], BitVec.toNat ft ≤ 4 :=
  ⟨filled_inv, rfl, rfl, rfl, rfl, by decide, rfl, by decide⟩

/-! ## Bit depth -/

theorem witness_UnpackedSamples : (1 = 1 ∨ 1 = 2 ∨ 1 = 4) ∧ 9 < 10 ∧ [7#8, 8#8].length = 2 := by decide

theorem witness_PackAndUnpackAreInverse :
    [3#8, 0#8, 3#8].length = 3 ∧ (∀ v ∈ [3#8, 0#8, 3#8], BitVec.toNat v ≤ 2 ^ 2 - 1) ∧
    [0xFF#8].length = (3 * 2 + 7) / 8 ∧ 0 < [0xFF#8].length ∧ 7 < 8 := by decide

theorem witness_UnpackRowUnpacks :
    bare.regs.status.cfg = false ∧ (setUpRow 2#32 filled).regs.height.toNat ≤ (setUpRow 2#32 filled).regs.upRow.toNat ∧
    filled.regs.status.cfg = true ∧ (setUpRow 1#32 filled).regs.upRow.toNat < (setUpRow 1#32 filled).regs.height.toNat := by
  decide

theorem witness_UnpackAllRepeatsUnpackRow :
    bare.regs.status.cfg = false ∧ filled.regs.status.cfg = true ∧ filled.regs.upRow.toNat ≤ filled.regs.height.toNat ∧
    (setUpRow 2#32 filled).regs.upRow.toNat ≤ (setUpRow 2#32 filled).regs.height.toNat := by decide

theorem witness_PackRowPacks :
    (setPkRow 2#32 deep).regs.height.toNat ≤ (setPkRow 2#32 deep).regs.pkRow.toNat ∧
    deep.regs.pkRow.toNat < deep.regs.height.toNat ∧ deep.regs.bitDepth.toNat < 8 ∧
    (∀ v ∈ memRead deep .pix 0 3, v.toNat ≤ 2 ^ 2 - 1) ∧ (∃ v ∈ memRead deep .pix 3 3, 2 ^ 2 - 1 < v.toNat) ∧
    ¬ filled.regs.bitDepth.toNat < 8 := by decide

/-- k = 1, the row of the sample out of range; k = HEIGHT where every sample fits. -/
theorem witness_PackAllRepeatsPackRow :
    deep.regs.pitch.toNat = (3 * 2 + 7) / 8 ∧ deep.regs.pkRow.toNat ≤ 1 ∧ 1 ≤ deep.regs.height.toNat ∧
    (∀ i < 1, ∀ x < 3, (readByte deep .pix (i * 3 + x)).toNat ≤ 2 ^ 2 - 1) ∧
    (∃ x < 3, 2 ^ 2 - 1 < (readByte deep .pix (1 * 3 + x)).toNat) ∧
    filled.regs.pitch.toNat = (3 * 8 + 7) / 8 ∧ 2 = filled.regs.height.toNat ∧
    (∀ i < 2, ∀ x < 3, (readByte filled .pix (i * 3 + x)).toNat ≤ 2 ^ 8 - 1) := by decide

theorem witness_PackToUnpackRoundTrip :
    described.Inv ∧ described.running = false ∧ described.regs.status.err = false ∧
    exec .configure described = .next (commitConfiguration described) ∧
    (commitConfiguration described).regs.status.err = false ∧ (4#8 : Byte).toNat ≤ 4 ∧
    ∀ k < (commitConfiguration described).regs.pixSize.toNat,
      (readByte (commitConfiguration described) .pix k).toNat ≤
        2 ^ (commitConfiguration described).regs.bitDepth.toNat - 1 :=
  ⟨described_inv, rfl, rfl, by rfl, rfl, by decide, by decide⟩

/-! ## Frames and invariants -/

theorem witness_MemWriteChangesOnlyItsBytes : 1 < [7#8, 8#8].length := by decide

theorem witness_CommandsThatStoreNothing :
    (∃ t, exec .nop filled = .next t) ∧ (∃ t, exec .configure filled = .next t) ∧ (∃ t, exec .crcInit filled = .next t) ∧
    (∃ t, exec .crcType filled = .next t) ∧ (∃ t, exec .crcCsb filled = .next t) ∧ (∃ t, exec .crcCheck filled = .next t) ∧
    (∃ t, exec .chunkHdr filled = .next t) ∧ (∃ t, exec .chunkSkip filled = .next t) ∧
    (∃ t, exec .chunkEmit filled = .next t) ∧ (∃ t, exec .idatEmit filled = .next t) :=
  ⟨⟨_, rfl⟩, ⟨_, rfl⟩, ⟨_, rfl⟩, ⟨_, rfl⟩, ⟨_, rfl⟩, ⟨_, rfl⟩, ⟨_, rfl⟩, ⟨_, rfl⟩, ⟨_, rfl⟩, ⟨_, rfl⟩⟩

theorem witness_RowCommandsStoreOneRow :
    filled.Inv ∧ (∃ t, exec .unfilterRow filled = .next t) ∧ (∃ t, exec (.filterRow 4#8) filled = .next t) ∧
    (∃ t, exec .packRow filled = .next t) ∧ (∃ t, exec .unpackRow filled = .next t) :=
  ⟨filled_inv, ⟨_, rfl⟩, ⟨_, rfl⟩, ⟨_, rfl⟩, ⟨_, rfl⟩⟩

theorem witness_CommandsStayInTheActiveBuffers :
    filled.Inv ∧ (∃ t, exec .unfilterAll filled = .next t) ∧ filled.regs.slbSize.toNat ≤ 8 ∧
    filled.regs.pixSize.toNat ≤ 6 ∧ filled.regs.chunkLen.toNat ≤ 0 :=
  ⟨filled_inv, ⟨_, rfl⟩, by decide, by decide, by decide⟩

theorem witness_StepKeepsInvariant : filled.Inv ∧ step filled = .next filled := ⟨filled_inv, rfl⟩

/-- With an error pending: power-on, a RESET word, and another command word. -/
theorem witness_OnlyResetLeavesTheErrorState (host : List HostEvent)
    (_ : host ∈ [[.powerOn], [.write cmdAddress .word 0x01000000#32], [.write cmdAddress .word 0x00000000#32]]) :
    State.Inv { stuckOnError with host := host } ∧
    State.regs { stuckOnError with host := host } = stuckOnError.regs ∧ stuckOnError.regs.status.err = true ∧
    ∃ t, step { stuckOnError with host := host } = .next t := by
  refine ⟨stuckOnError_inv host, rfl, rfl, ?_⟩
  rename_i h
  simp only [List.mem_cons, List.not_mem_nil, or_false] at h
  rcases h with rfl | rfl | rfl <;> exact ⟨_, rfl⟩

/-! ## Host accesses -/

theorem witness_OtherRegisterWrites : ∀ off ∈ [0#32, 0x20#32, 0x48#32, 0x58#32, 0x64#32, 0x6C#32, 0xFC#32],
    BitVec.toNat off < 0x100 ∧ off.toNat % 4 = 0 ∧
    (off = 0#32 ∨ (0x20 ≤ off.toNat ∧ off.toNat ≤ 0x48) ∨ (0x58 ≤ off.toNat ∧ off.toNat ≤ 0x64) ∨ 0x6C ≤ off.toNat) := by
  intro off h
  simp only [List.mem_cons, List.not_mem_nil, or_false] at h
  rcases h with rfl | rfl | rfl | rfl | rfl | rfl | rfl <;> decide

theorem witness_RegisterReads : ∀ off ∈ [0x6C#32, 0xFC#32],
    0x6C ≤ BitVec.toNat off ∧ off.toNat < 0x100 ∧ off.toNat % 4 = 0 := by
  intro off h
  simp only [List.mem_cons, List.not_mem_nil, or_false] at h
  rcases h with rfl | rfl <;> decide

theorem witness_BufferAccesses : bare.params.Legal ∧ (0#32 : Word).toNat < bare.params.cap .csb ∧
    (63#32 : Word).toNat < bare.params.cap .csb := by decide

/-- Both sides of R68: a refused and an accepted access at each boundary. -/
theorem witness_RefusedAccesses : bare.params.Legal ∧ (0xFE#32 : Word).toNat % 4 ≠ 0 ∧ (0xFC#32 : Word).toNat % 4 = 0 ∧
    (spaceBase .slb).toNat + bare.params.cap .slb ≤ (0x10000040#32 : Word).toNat ∧
    (0x1000003F#32 : Word).toNat < (spaceBase .slb).toNat + bare.params.cap .slb := by decide

/-! ## Silent streams -/

/-- An empty chunk of CHUNK_READ and CHUNK_SKIP: the payload needs no read, so the CRC field is the silent one. -/
def emptyChunk : State := chunk bare 0#32 0x49454E44#32

theorem witness_SilentStreamHangsTheBlock :
    SilentOn (.oracle [none] 0) 8 ∧
    (emptyChunk.regs.chunkLen.toNat ≤ emptyChunk.params.csbCap ∧
      SilentOn (.oracle [none] 0) (emptyChunk.regs.chunkLen.toNat + 4) ∧ SilentOn (.oracle [none] 0) 4 ∧
      Delivers (.oracle [none] 0) emptyChunk.regs.chunkLen.toNat [] (.oracle [none] 0) ∧
      ∀ bs, sinkAnswer ⟨[none], 0⟩ bs = none) ∧
    SilentOn (.oracle [none] 0) (chunk bare 64#32 0#32).regs.chunkLen.toNat ∧
    (State.hung { bare with hung := some .sink } = some .sink ∧ State.host { bare with hung := some .sink } = []) ∧
    State.host { bare with hung := some .sink, host := [.powerOn] } = .powerOn :: [] ∧
    State.host { bare with hung := some .source, host := [.powerOn] } = .powerOn :: [] :=
  ⟨⟨by decide, rfl⟩, ⟨by decide, ⟨by decide, rfl⟩, ⟨by decide, rfl⟩, ⟨rfl, rfl⟩, fun _ => rfl⟩, ⟨by decide, rfl⟩,
   ⟨rfl, rfl⟩, rfl, rfl⟩

/-- A source that answers f13's payload, then its CRC field, then never again. -/
theorem witness_SilentStreamHangsTheBlock_run :
    Delivers (.oracle [some f13Payload, some f13Crc, none] 0) f13.regs.chunkLen.toNat f13Payload
      (.oracle [some f13Crc, none] 1) ∧
    Delivers (.oracle [some f13Crc, none] 1) 4 f13Crc (.oracle [none] 2) ∧
    SilentOn (.oracle [none] 2) 8 ∧ SilentOn (.oracle [none] 0) f13.regs.chunkLen.toNat ∧
    (inflateBound f13Payload 8 ⟨19, [1#8], .more⟩).status ≠ .error ∧
    (inflateBound f13Payload 8 ⟨19, [1#8], .more⟩).consumed = f13Payload.length :=
  ⟨⟨rfl, rfl⟩, ⟨rfl, rfl⟩, ⟨by decide, rfl⟩, ⟨by decide, rfl⟩, by decide, by decide⟩

/-! ## The compression service (42_framer.md R163) -/

/-- Vector F13's single-chunk decode of its image, as the run offers it room. -/
def f13One : List InflateCall :=
  [⟨f13Payload, 8, ⟨19, [4#8, 10#8, 10#8, 10#8, 4#8, 5#8, 20#8, 0xA0#8], .complete⟩⟩]

/-- The same decode split into F13's three chunks. -/
def f13Three : List InflateCall :=
  [⟨f13Payload.take 7, 8, ⟨7, [], .more⟩⟩,
   ⟨(f13Payload.drop 7).take 7, 8, ⟨7, [4#8, 10#8, 10#8, 10#8, 4#8, 5#8, 20#8], .more⟩⟩,
   ⟨f13Payload.drop 14, 1, ⟨5, [0xA0#8], .complete⟩⟩]

/-- INFLATE_SPLIT speaks of the two decodes of F13, each of which fills SLB, and says of them what F13 says. -/
theorem witness_InflateSplit (session : List InflateCall → Prop) (h1 : session f13One) (h3 : session f13Three)
    (hsplit : InflateSplit session) :
    f13One.flatMap (·.answer.output) = f13Three.flatMap (·.answer.output) ∧ lastStatus f13One = lastStatus f13Three :=
  hsplit f13One f13Three h1 h3 (by unfold InflateCall.Consumed; decide) (by unfold InflateCall.Consumed; decide)
    (roomSufficed_of_run (room := 8) (by simp [RunRooms, InflateCall.Bounded, f13One, f13Payload]) rfl)
    (roomSufficed_of_run (room := 8) (by simp [RunRooms, InflateCall.Bounded, f13Three, f13Payload]) rfl)
    (by decide) (by decide) (by decide)

/-- A session whose last call filled its room and said `more` ran out of room. -/
theorem test_room_ran_out : ¬ RoomSufficed [⟨[1#8], 2, ⟨1, [7#8, 7#8], .more⟩⟩] := by
  simp [RoomSufficed, lastStatus]

end Sys2Proof.Machine.Test
end

section
/-! PROOFS. Byte order (00_scope.md R9, 20_memory.md R72). -/

set_option autoImplicit false

namespace Sys2Proof.Machine

/-- The value of four bytes, most significant first. -/
theorem unBe32_toNat (b0 b1 b2 b3 : Byte) : (unBe32 [b0, b1, b2, b3]).toNat =
    b0.toNat * 2 ^ 24 + b1.toNat * 2 ^ 16 + b2.toNat * 2 ^ 8 + b3.toNat := by
  simp only [unBe32, List.foldl_cons, List.foldl_nil, BitVec.toNat_add, BitVec.toNat_mul, BitVec.toNat_setWidth,
    BitVec.toNat_ofNat]
  omega

/-- The eight bits of a word from bit `k` up, as a number. -/
theorem extractByte_toNat (v : Word) (k : Nat) : (v.extractLsb' k 8).toNat = v.toNat / 2 ^ k % 2 ^ 8 := by
  rw [BitVec.extractLsb'_toNat, Nat.shiftRight_eq_div_pow]

theorem be32_unBe32 (b0 b1 b2 b3 : Byte) : be32 (unBe32 [b0, b1, b2, b3]) = [b0, b1, b2, b3] := by
  have byteAt (k : Nat) (b : Byte) (h : (unBe32 [b0, b1, b2, b3]).toNat / 2 ^ k % 2 ^ 8 = b.toNat) :
      (unBe32 [b0, b1, b2, b3]).extractLsb' k 8 = b :=
    BitVec.eq_of_toNat_eq ((extractByte_toNat _ k).trans h)
  rw [be32, byteAt 24 b0, byteAt 16 b1, byteAt 8 b2, byteAt 0 b3] <;> rw [unBe32_toNat] <;> omega

theorem unBe32_be32 (v : Word) : unBe32 (be32 v) = v := by
  apply BitVec.eq_of_toNat_eq
  rw [be32, unBe32_toNat]
  simp only [extractByte_toNat]
  omega

/-- Settles O20: BE32 and unBE32 split and join the same four digits base 256. -/
theorem bigEndianWords : Obligations.BigEndianWords :=
  ⟨fun b0 b1 b2 b3 => ⟨unBe32_toNat b0 b1 b2 b3, be32_unBe32 b0 b1 b2 b3⟩, unBe32_be32⟩

end Sys2Proof.Machine
end

section
/-! PROOFS. Every step keeps the invariant (00_scope.md R6, 10_state.md R23 to R52, 20_memory.md R61).

`Keeping run s` is the invariant with the run flag fixed: what every state has that a command's pseudocode passes
through. A first layer shows that each named update keeps it; a second that each command's pseudocode ends in it,
however it ends; the last goes through the commands and the events of a step. -/

set_option autoImplicit false

namespace Sys2Proof.Machine

/-! ## What the invariant does not speak of -/

/-- The state with everything the invariant does not speak of at a fixed value. -/
def invView (s : State) : State :=
  { s with
    regs := { s.regs with
      crcAcc := 0#32, crcExpect := 0#32, chunkLen := 0#32, inPos := 0#32, outPos := 0#32, idatCount := 0#32 }
    hung := none, host := [], reply := none, source := .oracle [] 0, sink := ⟨[], 0⟩, out := []
    inflater := ⟨[], 0, 0⟩, deflater := ⟨[], 0⟩, powerCycles := 0 }

theorem invView_inv (s : State) : (invView s).Inv ↔ s.Inv :=
  ⟨fun h => { h with
      configured := fun hc => { h.configured hc with }
      underived := fun hc => { h.underived hc with } },
   fun h => { h with
      configured := fun hc => { h.configured hc with }
      underived := fun hc => { h.underived hc with } }⟩

theorem State.Inv.buffersOk {s : State} (h : s.Inv) : BuffersOk s where
  wf
    | .slb => h.slbWf
    | .pix => h.pixWf
    | .csb => h.csbWf
  within
    | .slb => h.slbWithin
    | .pix => h.pixWithin
    | .csb => h.csbWithin

/-! ## The invariant with the run flag fixed -/

/-- The invariant holds and a run is in progress, or is not. -/
structure Keeping (run : Bool) (s : State) : Prop where
  inv : s.Inv
  running : s.running = run

section
variable {run : Bool} {s t : State}

/-- An update of what the invariant does not speak of. -/
theorem Keeping.congr (h : Keeping run s) (hv : invView t = invView s) : Keeping run t where
  inv := (invView_inv t).1 (hv ▸ (invView_inv s).2 h.inv)
  running := (congrArg State.running hv).trans h.running

theorem Keeping.received (h : Keeping run s) (src : Source) (n : Nat) : Keeping run (received s src n) :=
  h.congr rfl

theorem Keeping.sent (h : Keeping run s) (bytes : List Byte) (k : Nat) : Keeping run (sent s bytes k) :=
  h.congr rfl

theorem Keeping.setCrcAcc (h : Keeping run s) (v : Word) : Keeping run (setCrcAcc v s) := h.congr rfl

theorem Keeping.loadCrcs (h : Keeping run s) (e a : Word) : Keeping run (loadCrcs e a s) := h.congr rfl

theorem Keeping.setIdatCount (h : Keeping run s) (v : Word) : Keeping run (setIdatCount v s) := h.congr rfl

theorem Keeping.deflateCalled (h : Keeping run s) : Keeping run (deflateCalled s) := h.congr rfl

theorem Keeping.hang (h : Keeping run s) (w : Hang) : Keeping run { s with hung := some w } := h.congr rfl

theorem Keeping.hostTaken (h : Keeping run s) (rest : List HostEvent) : Keeping run { s with host := rest } :=
  h.congr rfl

theorem Keeping.replied (h : Keeping run s) (v : Option Word) : Keeping run { s with reply := v } := h.congr rfl

/-- A chunk header may be latched, in a run only another IDAT header. -/
theorem Keeping.setChunk (h : Keeping run s) (len ty : Word) (ht : run = true → ty = idatTag) :
    Keeping run (setChunk len ty s) where
  inv := { h.inv with
    configured := fun hc => { h.inv.configured hc with }
    underived := fun hc => { h.inv.underived hc with }
    runTag := fun hr => ht (h.running ▸ hr) }
  running := h.running

/-- A write below the buffer's capacity (20_memory.md R61). -/
theorem Keeping.memWrite (h : Keeping run s) {sp : Space} {a : Nat} {bs : List Byte}
    (ha : a + bs.length ≤ s.params.cap sp) : Keeping run (memWrite s sp a bs) where
  inv := by
    have hb := memWrite_buffersOk s sp a bs h.inv.buffersOk ha
    have slbWf := hb.wf .slb
    have pixWf := hb.wf .pix
    have csbWf := hb.wf .csb
    have slbWithin := hb.within .slb
    have pixWithin := hb.within .pix
    have csbWithin := hb.within .csb
    cases sp <;> exact { h.inv with slbWf, pixWf, csbWf, slbWithin, pixWithin, csbWithin }
  running := by simp [h.running]

/-! ## The row counters and FR_OUT -/

theorem Keeping.setUfRow (h : Keeping run s) {v : Word} (hv : v.toNat ≤ s.regs.height.toNat) :
    Keeping run (setUfRow v s) where
  inv := { h.inv with
    configured := fun hc => { h.inv.configured hc with ufRow := hv }
    underived := fun hc => { h.inv.underived hc with } }
  running := h.running

theorem Keeping.setUpRow (h : Keeping run s) {v : Word} (hv : v.toNat ≤ s.regs.height.toNat) :
    Keeping run (setUpRow v s) where
  inv := { h.inv with
    configured := fun hc => { h.inv.configured hc with upRow := hv }
    underived := fun hc => { h.inv.underived hc with } }
  running := h.running

theorem Keeping.setPkRow (h : Keeping run s) {v : Word} (hv : v.toNat ≤ s.regs.height.toNat) :
    Keeping run (setPkRow v s) where
  inv := { h.inv with
    configured := fun hc => { h.inv.configured hc with pkRow := hv }
    underived := fun hc => { h.inv.underived hc with } }
  running := h.running

theorem Keeping.setFeLeft (h : Keeping run s) {v : Word} (hv : v.toNat ≤ s.regs.height.toNat) :
    Keeping run (setFeLeft v s) where
  inv := { h.inv with
    configured := fun hc => { h.inv.configured hc with feLeft := hv }
    underived := fun hc => { h.inv.underived hc with } }
  running := h.running

/-- FR_OUT may move up to SLB_SIZE while a run is in progress (10_state.md R46). -/
theorem Keeping.setFrOut (h : Keeping true s) {v : Word} (hv : v.toNat ≤ s.regs.slbSize.toNat) :
    Keeping true (setFrOut v s) where
  inv := { h.inv with
    configured := fun hc => { h.inv.configured hc with frOut := hv }
    underived := fun hc => { h.inv.underived hc with }
    framed := fun _ hd => nomatch (h.inv.runIdle h.running).symm.trans hd }
  running := h.running

/-! ## Errors and the ends of a run -/

/-- Error entry between runs (60_exceptions.md R275). -/
theorem Keeping.errorState (h : Keeping false s) (op : Byte) {code : Byte} (hc : code ∈ raisedCodes) :
    Keeping false (errorState op code s) where
  inv := { h.inv with
    configured := fun hc => { h.inv.configured hc with }
    underived := fun hc => { h.inv.underived hc with }
    noError := nofun
    error := fun _ => hc
    failed := fun _ => rfl
    runErr := fun hr => nomatch h.running.symm.trans hr }
  running := h.running

/-- Error entry for an error raised in a run (42_framer.md R173). -/
theorem Keeping.failRun (h : Keeping true s) {e : ErrKind} (he : errorCode e ∈ raisedCodes) :
    Keeping false (failRun e s) where
  inv := { h.inv with
    configured := fun hc => { h.inv.configured hc with }
    underived := fun hc => { h.inv.underived hc with }
    noError := nofun
    error := fun _ => he
    failed := fun _ => rfl
    framed := nofun
    runCfg := nofun
    runErr := nofun
    runIdle := nofun
    runSession := nofun
    runTag := nofun }
  running := rfl

/-- The end of a run that passed its end check (42_framer.md R172). -/
theorem Keeping.finishRun (h : Keeping true s) (hz : s.frZst = .complete) (ho : s.regs.frOut = s.regs.slbSize) :
    Keeping false (finishRun s) where
  inv := { h.inv with
    configured := fun hc => { h.inv.configured hc with }
    underived := fun hc => { h.inv.underived hc with }
    failed := nofun
    framed := fun _ _ => ⟨hz, ho⟩
    runCfg := nofun
    runErr := nofun
    runIdle := nofun
    runSession := nofun
    runTag := nofun }
  running := rfl

/-- The start of a run, its preconditions met (42_framer.md R169). -/
theorem Keeping.beginRun (h : Keeping false s) (herr : s.regs.status.err = false) (hcfg : s.regs.status.cfg = true)
    (htag : s.regs.chunkType = idatTag) (hidle : s.regs.status.frState = .idle) : Keeping true (beginRun s) where
  inv := { h.inv with
    configured := fun hc => { h.inv.configured hc with frOut := Nat.zero_le _ }
    underived := fun hc => { h.inv.underived hc with }
    framed := fun _ hd => nomatch hidle.symm.trans hd
    noSession := nofun
    runCfg := fun _ => hcfg
    runErr := fun _ => herr
    runIdle := fun _ => hidle
    runSession := fun _ => nofun
    runTag := fun _ => htag }
  running := rfl

/-- A call of the inflater in a run (10_state.md R52). -/
theorem Keeping.inflateCalled (h : Keeping true s) (st : InflateStatus) : Keeping true (inflateCalled st s) where
  inv := { h.inv with
    framed := fun _ hd => nomatch (h.inv.runIdle h.running).symm.trans hd
    noSession := fun hs => absurd hs (h.inv.runSession h.running) }
  running := h.running

end

end Sys2Proof.Machine
end

section
/-! PROOFS. The pseudocode of every command ends in the invariant, however it ends. -/

set_option autoImplicit false

namespace Sys2Proof.Machine

/-! ## The filters and the bit-depth units (43_filter.md, 44_bitdepth.md) -/

/-- A loop over rows whose body needs a row left: it runs no more often than there are rows left, and each turn
uses up at most one. -/
theorem ends_repeatRows_left {P : State → Prop} {left : State → Nat} {body : State → Result Unit}
    (hb : ∀ s, P s → 0 < left s → (body s).Ends P)
    (hleft : ∀ s u, body s = .ok () u → left s ≤ left u + 1) (n : Nat) (s : State) (h : P s) (hn : n ≤ left s) :
    (repeatRows body n s).Ends P := by
  induction n generalizing s with
  | zero => exact h
  | succ n ih =>
    refine ends_andThen (hb s h (by omega)) fun _ u hu hPu => ih u hPu ?_
    have := hleft s u hu
    omega

/-- Between runs and configured: what the row commands need. -/
structure RowsReady (s : State) : Prop where
  keeping : Keeping false s
  cfg : s.regs.status.cfg = true

theorem RowsReady.configured {s : State} (h : RowsReady s) : Configured s.regs s.params :=
  h.keeping.inv.configured h.cfg

/-- A whole scanline, its filter byte included, may be stored in any row below HEIGHT (20_memory.md R62). -/
theorem RowsReady.slbRow_fits {s : State} (h : RowsReady s) {i : Nat} (hi : i < s.regs.height.toNat) :
    filtAt s.regs i + 1 + s.regs.pitch.toNat ≤ s.params.cap .slb := by
  have hrow := slb_row_within h.configured hi
  rw [h.configured.slbSize] at hrow
  exact hrow.trans h.configured.slbFits

/-- A whole row of samples may be stored in any row below HEIGHT (20_memory.md R63). -/
theorem RowsReady.pixRow_fits {s : State} (h : RowsReady s) {i : Nat} (hi : i < s.regs.height.toNat) :
    pixAt s.regs i 0 + samplesPerRow s.regs ≤ s.params.cap .pix := by
  have hrow := pix_row_within h.configured hi
  rw [h.configured.pixSize] at hrow
  exact hrow.trans h.configured.pixFits

/-- A row counter below HEIGHT may be advanced. -/
theorem succ_toNat_le {v w : Word} (h : v.toNat < w.toNat) : (v + 1#32).toNat ≤ w.toNat := by
  bv_omega

/-- Advancing a row counter uses up at most one row. -/
theorem sub_le_sub_succ (n : Nat) (v : Word) : n - v.toNat ≤ n - (v + 1#32).toNat + 1 := by
  bv_omega

theorem unfilterNext_ends (s : State) (h : RowsReady s) (hrow : s.regs.ufRow.toNat < s.regs.height.toNat) :
    (unfilterNext s).Ends RowsReady := by
  rcases unfilterNext_cases s with ⟨-, he⟩ | ⟨ft, -, he⟩ <;> rw [he]
  · exact ⟨h, by decide⟩
  · have hfits := h.slbRow_fits hrow
    refine ⟨.setUfRow (.memWrite h.keeping ?_) ?_, by simpa using h.cfg⟩
    · simpa [dataAt, filtAt] using hfits
    · simpa using succ_toNat_le hrow

theorem unpackNext_ends (s : State) (h : RowsReady s) (hrow : s.regs.upRow.toNat < s.regs.height.toNat) :
    (unpackNext s).Ends RowsReady := by
  rw [unpackNext_eq]
  refine ⟨.setUpRow (.memWrite h.keeping ?_) ?_, by simpa using h.cfg⟩
  · rw [unpackRow_length h.configured _ (slbRow_length _ _)]
    exact h.pixRow_fits hrow
  · simpa using succ_toNat_le hrow

theorem packNext_ends (s : State) (h : RowsReady s) (hrow : s.regs.pkRow.toNat < s.regs.height.toNat) :
    (packNext s).Ends RowsReady := by
  rcases packNext_cases s with ⟨-, he⟩ | ⟨-, he⟩ <;> rw [he]
  · exact ⟨h, by decide⟩
  · have hfits := h.slbRow_fits hrow
    refine ⟨.setPkRow (.memWrite h.keeping ?_) ?_, by simpa using h.cfg⟩
    · rw [List.length_cons, packRow_length h.configured _ (pixRow_length _ _)]
      omega
    · simpa using succ_toNat_le hrow

theorem filterNext_ends (ftByte : Byte) (ft : FilterType) (s : State) (h : RowsReady s)
    (hrow : 0 < s.regs.feLeft.toNat) : (filterNext ftByte ft s).Ends RowsReady := by
  have hle := h.configured.feLeft
  have hfits := h.slbRow_fits (i := s.regs.feLeft.toNat - 1) (by omega)
  rw [filterNext_eq]
  refine ⟨.setFeLeft (.memWrite h.keeping ?_) ?_, by simpa using h.cfg⟩
  · rw [List.length_cons, filterRow_length, slbRow_length]
    omega
  · rw [memWrite_regs, BitVec.toNat_ofNat]
    omega

/-- A row command: CFG, a row left, the row. -/
theorem rowCommand_ends {s : State} (h : Keeping false s) {left : State → Bool} {body : State → Result Unit}
    (hb : RowsReady s → left s = true → (body s).Ends RowsReady) :
    ((require s.regs.status.cfg .sequenceError s).andThen fun _ s =>
      (require (left s) .sequenceError s).andThen fun _ s => body s).Ends (Keeping false) :=
  ends_require_andThen h fun hcfg => ends_require_andThen h fun hc =>
    ends_mono (hb ⟨h, hcfg⟩ hc) fun _ hu => hu.keeping

/-- A command over all the rows left: CFG, then the loop. -/
theorem allRowsCommand_ends {s : State} (h : Keeping false s) {left : State → Nat} {body : State → Result Unit}
    (hb : ∀ s, RowsReady s → 0 < left s → (body s).Ends RowsReady)
    (hleft : ∀ s u, body s = .ok () u → left s ≤ left u + 1) :
    ((require s.regs.status.cfg .sequenceError s).andThen fun _ s => repeatRows body (left s) s).Ends (Keeping false) :=
  ends_require_andThen h fun hcfg =>
    ends_mono (ends_repeatRows_left hb hleft _ s ⟨h, hcfg⟩ le_rfl) fun _ hu => hu.keeping

theorem unfilterOne_ends {s : State} (h : Keeping false s) : (unfilterOne s).Ends (Keeping false) :=
  rowCommand_ends h fun hs hc => unfilterNext_ends s hs (of_decide_eq_true hc)

theorem unpackOne_ends {s : State} (h : Keeping false s) : (unpackOne s).Ends (Keeping false) :=
  rowCommand_ends h fun hs hc => unpackNext_ends s hs (of_decide_eq_true hc)

theorem packOne_ends {s : State} (h : Keeping false s) : (packOne s).Ends (Keeping false) :=
  rowCommand_ends h fun hs hc => packNext_ends s hs (of_decide_eq_true hc)

theorem filterOne_ends (ftByte : Byte) (ft : FilterType) {s : State} (h : Keeping false s) :
    (filterOne ftByte ft s).Ends (Keeping false) :=
  rowCommand_ends h fun hs hc => filterNext_ends ftByte ft s hs (of_decide_eq_true hc)

theorem unfilterAll_ends {s : State} (h : Keeping false s) : (unfilterAll s).Ends (Keeping false) := by
  refine allRowsCommand_ends h (left := fun s => s.regs.height.toNat - s.regs.ufRow.toNat)
    (fun s hs hl => unfilterNext_ends s hs (Nat.lt_of_sub_pos hl)) fun s u hu => ?_
  rcases unfilterNext_cases s with ⟨-, he⟩ | ⟨ft, -, he⟩ <;> rw [he] at hu <;> cases hu
  simpa using sub_le_sub_succ _ _

theorem unpackAll_ends {s : State} (h : Keeping false s) : (unpackAll s).Ends (Keeping false) := by
  refine allRowsCommand_ends h (left := fun s => s.regs.height.toNat - s.regs.upRow.toNat)
    (fun s hs hl => unpackNext_ends s hs (Nat.lt_of_sub_pos hl)) fun s u hu => ?_
  rw [unpackNext_eq] at hu
  cases hu
  simpa using sub_le_sub_succ _ _

theorem packAll_ends {s : State} (h : Keeping false s) : (packAll s).Ends (Keeping false) := by
  refine allRowsCommand_ends h (left := fun s => s.regs.height.toNat - s.regs.pkRow.toNat)
    (fun s hs hl => packNext_ends s hs (Nat.lt_of_sub_pos hl)) fun s u hu => ?_
  rcases packNext_cases s with ⟨-, he⟩ | ⟨-, he⟩ <;> rw [he] at hu <;> cases hu
  simpa using sub_le_sub_succ _ _

theorem filterAll_ends (ftByte : Byte) (ft : FilterType) {s : State} (h : Keeping false s) :
    (filterAll ftByte ft s).Ends (Keeping false) := by
  refine allRowsCommand_ends h (left := fun s => s.regs.feLeft.toNat)
    (fun s hs hl => filterNext_ends ftByte ft s hs hl) fun s u hu => ?_
  rw [filterNext_eq] at hu
  cases hu
  rw [setFeLeft_regs, BitVec.toNat_ofNat]
  omega

/-- A FILTER command, whose operand may name no filter. -/
theorem withFilterType_ends {s : State} (h : Keeping false s) (ftByte : Byte) {body : FilterType → State → Result Unit}
    (hb : ∀ ft, (body ft s).Ends (Keeping false)) : (withFilterType ftByte body s).Ends (Keeping false) := by
  unfold withFilterType
  split
  · exact ⟨h, by decide⟩
  · exact hb _

/-! ## CONFIGURE (40_control.md) -/

/-- CONFIGURE's checks raise errors of R271's table. -/
theorem configureError_raised {r : Regs} {e : ErrKind} (h : configureError r = some e) :
    errorCode e ∈ raisedCodes := by
  have hall : configureError r ∈ [some .corruptedError, some .notSupportedError, none] := by
    unfold configureError
    dsimp only
    repeat' split
    all_goals simp
  rw [h] at hall
  simp only [List.mem_cons, Option.some.injEq, reduceCtorEq, List.not_mem_nil, or_false] at hall
  rcases hall with rfl | rfl <;> decide

/-- The stride of an accepted descriptor is at most four. -/
theorem geomStride_le {r : Regs} (h : configureError r = none) : geomStride r ≤ 4 := by
  obtain ⟨hdepth, -, hchannels, -⟩ := accepted_cases h
  have : r.bitDepth.toNat * geomChannels r ≤ 8 * 4 := Nat.mul_le_mul (by omega) hchannels
  rw [geomStride, ceilDiv]
  omega

/-- The pitch of an accepted descriptor is below its scanline buffer length. -/
theorem geomPitch_lt_geomSlb {r : Regs} (h : configureError r = none) : geomPitch r < geomSlb r := by
  obtain ⟨-, -, -, -, hheight⟩ := accepted_cases h
  exact Nat.le_mul_of_pos_left (geomPitch r + 1) hheight

/-- The registers CONFIGURE commits hold the geometry of the accepted descriptor: none of it is cut (R125 to R127). -/
theorem configureCommit_configured {r : Regs} {p : Params} (hp : p.Legal) (h : configureError r = none)
    (hslb : geomSlb r ≤ p.slbCap) (hpix : geomPix r ≤ p.pixCap) : Configured (configureCommit r) p := by
  obtain ⟨⟨-, hslbCap⟩, ⟨-, hpixCap⟩, -⟩ := hp
  obtain ⟨-, -, hchannels, -⟩ := accepted_cases h
  have hstride := geomStride_le h
  have hpitch := geomPitch_lt_geomSlb h
  exact
    { accepted := h
      channels := Nat.mod_eq_of_lt (show geomChannels r < 2 ^ 3 by omega)
      stride := Nat.mod_eq_of_lt (show geomStride r < 2 ^ 3 by omega)
      pitch := Nat.mod_eq_of_lt (show geomPitch r < 2 ^ 32 by omega)
      slbSize := Nat.mod_eq_of_lt (show geomSlb r < 2 ^ 32 by omega)
      pixSize := Nat.mod_eq_of_lt (show geomPix r < 2 ^ 32 by omega)
      slbFits := hslb
      pixFits := hpix
      ufRow := Nat.zero_le _
      upRow := Nat.zero_le _
      pkRow := Nat.zero_le _
      feLeft := le_rfl
      frOut := Nat.zero_le _ }

theorem Keeping.commitConfiguration {s : State} (h : Keeping false s) (hacc : configureError s.regs = none)
    (hslb : geomSlb s.regs ≤ s.params.slbCap) (hpix : geomPix s.regs ≤ s.params.pixCap) :
    Keeping false (commitConfiguration s) where
  inv := { h.inv with
    configured := fun _ => configureCommit_configured h.inv.legal hacc hslb hpix
    underived := nofun
    failed := nofun
    framed := fun _ => nofun
    noSession := fun _ => rfl
    runCfg := fun _ => rfl
    runIdle := fun _ => rfl
    runSession := fun hr => nomatch h.running.symm.trans hr }
  running := h.running

theorem configure_ends {s : State} (h : Keeping false s) : (configure s).Ends (Keeping false) := by
  unfold configure
  split
  · rename_i e he
    exact ⟨h, configureError_raised he⟩
  · rename_i hacc
    refine ends_require_andThen h fun hfits => ?_
    rw [Bool.and_eq_true, decide_eq_true_iff, decide_eq_true_iff] at hfits
    exact h.commitConfiguration hacc hfits.1 hfits.2

/-! ## The chunk commands (41_crc.md, 42_framer.md) -/

theorem crcCsb_ends {s : State} (h : Keeping false s) : (crcCsb s).Ends (Keeping false) :=
  ends_require_andThen h fun _ => h.setCrcAcc _

/-- Everything readHeader can do (42_framer.md R165). -/
theorem readHeader_cases (s : State) :
    (SilentOn s.source 8 ∧ readHeader s = .blocked .source s) ∨
    ∃ hd src, Delivers s.source 8 hd src ∧
      ((hd.length ≠ 8 ∧ readHeader s = .raised .ioError (received s src hd.length)) ∨
       (hd.length = 8 ∧ readHeader s = .ok () (latchHeader hd (received s src hd.length)))) := by
  rcases streamRead_cases 8 s with ⟨hd, src, hdel, he⟩ | ⟨hs, he⟩
  · refine .inr ⟨hd, src, hdel, ?_⟩
    by_cases hl : hd.length = 8
    · exact .inr ⟨hl, by simp [readHeader, he, hl]⟩
    · exact .inl ⟨hl, by simp [readHeader, he, require_andThen, hl]⟩
  · exact .inl ⟨hs, by simp [readHeader, he]⟩

theorem readHeader_ends {s : State} (h : Keeping false s) : (readHeader s).Ends (Keeping false) := by
  rcases readHeader_cases s with ⟨-, he⟩ | ⟨hd, src, -, ⟨-, he⟩ | ⟨-, he⟩⟩ <;> rw [he]
  · exact h
  · exact ⟨h.received _ _, by decide⟩
  · exact (h.received _ _).setChunk _ _ nofun

theorem checkBody_ends {run : Bool} {s : State} (h : Keeping run s) (t : Word) (p q : List Byte) :
    (checkBody t p q s).Ends (Keeping run) := by
  have hload := h.loadCrcs (unBe32 q) (chunkCrcAcc t p)
  rw [checkBody_eq]
  split
  · exact hload
  · exact ⟨hload, by decide⟩

theorem readCrc_ends {run : Bool} {s : State} (h : Keeping run s) (t : Word) (p : List Byte) :
    (readCrc t p s).Ends (Keeping run) := by
  rcases readCrc_cases t p s with ⟨-, he⟩ | ⟨q, src, -, ⟨-, he⟩ | ⟨-, he⟩⟩ <;> rw [he]
  · exact h
  · exact ⟨h.received _ _, by decide⟩
  · exact checkBody_ends (h.received _ _) t p q

/-- The chunk body stores no more than CSB_CAP bytes (42_framer.md R164). -/
theorem readBody_ends {run : Bool} {s : State} (h : Keeping run s) (t : Word) : (readBody t s).Ends (Keeping run) := by
  have kept {p : List Byte} {src : Source} (hn : s.regs.chunkLen.toNat ≤ s.params.csbCap)
      (hd : Delivers s.source s.regs.chunkLen.toNat p src) : Keeping run (bodyKept s p src) := by
    refine (h.received src p.length).memWrite ?_
    have hp := delivers_length hd
    show 0 + p.length ≤ s.params.csbCap
    omega
  rcases readBody_cases t s with ⟨-, he⟩ | ⟨hn, ⟨-, he⟩ | ⟨p, src, hd, ⟨-, he⟩ | ⟨-, he⟩⟩⟩ <;> rw [he]
  · exact ⟨h, by decide⟩
  · exact h
  · exact ⟨kept hn hd, by decide⟩
  · exact readCrc_ends (kept hn hd) t p

theorem chunkSkip_ends {s : State} (h : Keeping false s) : (chunkSkip s).Ends (Keeping false) :=
  ends_andThen (ends_streamRead h fun _ _ _ => h.received _ _) fun _ _ _ hu => ends_require hu

theorem emitChunk_ends {s : State} (h : Keeping false s) (t : Word) (p : List Byte) :
    (emitChunk t p s).Ends (Keeping false) :=
  ends_streamWrite (h.setCrcAcc _) fun _ => (h.setCrcAcc _).sent _ _

theorem chunkEmit_ends {s : State} (h : Keeping false s) : (chunkEmit s).Ends (Keeping false) :=
  ends_require_andThen h fun _ => emitChunk_ends h _ _

theorem idatEmit_ends {s : State} (h : Keeping false s) : (idatEmit s).Ends (Keeping false) :=
  ends_require_andThen h fun _ => ends_require_andThen h.deflateCalled fun _ =>
    emitChunk_ends (h.deflateCalled.setChunk _ _ nofun) _ _

/-! ## The IDAT run (42_framer.md R169 to R173) -/

/-- The inflater's output fits the room SLB_SIZE − FR_OUT (R170). -/
theorem Keeping.bufferOutput {s : State} (h : Keeping true s) {o : List Byte} (ho : o.length ≤ idatRoom s.regs) :
    Keeping true (bufferOutput o s) := by
  have hconf := h.inv.configured (h.inv.runCfg h.running)
  have hout := hconf.frOut
  have hfits := hconf.slbFits
  rw [← hconf.slbSize] at hfits
  rw [idatRoom] at ho
  refine (h.memWrite ?_).setFrOut ?_
  · show s.regs.frOut.toNat + o.length ≤ s.params.slbCap
    omega
  · rw [memWrite_regs, BitVec.toNat_add, BitVec.toNat_ofNat]
    omega

theorem feedInflater_ends {s : State} (h : Keeping true s) (p : List Byte) :
    (feedInflater p s).Ends (Keeping true) := by
  have called := h.inflateCalled (inflateAnswer s p (idatRoom s.regs)).status
  have wrote := called.bufferOutput (inflateAnswer_bounds s p (idatRoom s.regs)).2
  exact ends_require_andThen called fun _ => ends_require_andThen wrote fun _ => wrote.setIdatCount _

theorem idatChunk_ends {s : State} (h : Keeping true s) : (idatChunk s).Ends (Keeping true) :=
  ends_andThen (readBody_ends h idatTag) fun p _ _ hu => feedInflater_ends hu p

/-- A piece of a run that keeps the invariant wherever it stops, and what follows it. -/
theorem settleRun_andThen_inv {α : Type} {r : Result α} {f : α → State → Result Unit} (hr : r.Ends (Keeping true))
    (hf : ∀ a u, Keeping true u → (settleRun (f a u)).Inv) : (settleRun (r.andThen f)).Inv := by
  cases r with
  | ok a u => exact hf a u hr
  | raised e u => exact (hr.1.failRun hr.2).inv
  | blocked w u => exact (hr.hang w).inv

/-- The end check, after a header that is no IDAT header: the run is over either way, so the tag no longer matters. -/
theorem settleRun_idatEnd_inv {s : State} (h : Keeping true s) (len ty : Word) :
    (settleRun (idatEnd (setChunk len ty s))).Inv := by
  unfold idatEnd
  rw [require_andThen]
  split
  · rename_i hend
    rw [Bool.and_eq_true, beq_iff_eq, beq_iff_eq] at hend
    exact ((h.finishRun hend.1 hend.2).setChunk len ty nofun).inv
  · exact ((h.failRun (e := .compressionError) (by decide)).setChunk len ty nofun).inv

theorem settleRun_idatNext_inv {s : State} (h : Keeping true s) : (settleRun (idatNext s)).Inv := by
  unfold idatNext
  rcases readHeader_cases s with ⟨-, he⟩ | ⟨hd, src, -, ⟨-, he⟩ | ⟨-, he⟩⟩ <;> rw [he]
  · exact (h.hang _).inv
  · exact ((h.received src hd.length).failRun (by decide)).inv
  · have hrecv := h.received src hd.length
    rw [andThen_ok]
    split
    · rename_i htag
      exact (hrecv.setChunk _ _ fun _ => htag).inv
    · exact settleRun_idatEnd_inv hrecv _ _

/-- One turn of a run. -/
theorem idatTurn_inv {s : State} (h : Keeping true s) : (idatTurn s).Inv :=
  settleRun_andThen_inv (idatChunk_ends h) fun _ _ hu => settleRun_idatNext_inv hu

/-- IDAT_RUN's first step: an error of the preconditions, or the start of the run and its first turn. -/
theorem idatRun_inv {s : State} (h : Keeping false s) (herr : s.regs.status.err = false) : (idatRun s).Inv := by
  have fails (e : ErrKind) (he : errorCode e ∈ raisedCodes) : (errorEntry 0x24#8 e s).Inv := (h.errorState _ he).inv
  unfold idatRun idatStart
  cases hcfg : s.regs.status.cfg
  case false => exact fails .sequenceError (by decide)
  cases htag : s.regs.chunkType == idatTag
  case false => simpa [htag] using fails .sequenceError (by decide)
  cases hidle : s.regs.status.frState == .idle
  case false => simpa [htag, hidle] using fails .corruptedError (by decide)
  have hbegun := h.beginRun herr hcfg (beq_iff_eq.1 htag) (beq_iff_eq.1 hidle)
  simpa [htag, hidle] using idatTurn_inv hbegun

end Sys2Proof.Machine
end

section
/-! PROOFS. Every command, every host access, both resets and so every step keep the invariant. -/

set_option autoImplicit false

namespace Sys2Proof.Machine

/-! ## Resets (70_reset_and_hazards.md R300 to R302) -/

theorem softReset_keeping {s : State} (h : s.Inv) : Keeping false (softReset s) where
  inv := { h with
    configured := nofun
    underived := fun _ => ⟨rfl, rfl, rfl, rfl, rfl⟩
    noError := fun _ => ⟨rfl, rfl⟩
    error := nofun
    failed := nofun
    framed := nofun
    noSession := fun _ => rfl
    runCfg := nofun
    runErr := nofun
    runIdle := nofun
    runSession := nofun
    runTag := nofun }
  running := rfl

theorem powerOnReset_inv {s : State} (h : s.Inv) : (powerOnReset s).Inv :=
  { (softReset_keeping h).inv with
    slbWf := .nil
    pixWf := .nil
    csbWf := .nil
    slbWithin := nofun
    pixWithin := nofun
    csbWithin := nofun }

/-! ## Commands -/

/-- A command whose pseudocode ends in the invariant. -/
theorem runCommand_inv {s t : State} {op : Byte} {body : State → Result Unit} (h : Keeping false s)
    (hx : runCommand op body s = .next t) (hb : (body s).Ends (Keeping false)) : t.Inv := by
  cases herr : s.regs.status.err
  · rw [runCommand_ready herr] at hx
    cases hx
    exact settle_of_ends hb (fun _ hu => hu.inv) (fun _ _ hu he => (hu.errorState op he).inv)
      fun _ w hu => (hu.hang w).inv
  · rw [runCommand_sticky herr] at hx
    cases hx
    exact h.inv

/-- Every command of a block that is between runs. -/
theorem exec_inv {i : Instr} {s t : State} (h : Keeping false s) (hx : exec i s = .next t) : t.Inv := by
  cases i with
  | nop => exact runCommand_inv h hx h
  | reset _ => cases hx; exact (softReset_keeping h.inv).inv
  | configure => exact runCommand_inv h hx (configure_ends h)
  | crcInit =>
    unfold exec execCrcInit at hx
    exact runCommand_inv h hx (h.setCrcAcc _)
  | crcType =>
    unfold exec execCrcType at hx
    exact runCommand_inv h hx (h.setCrcAcc _)
  | crcCsb => exact runCommand_inv h hx (crcCsb_ends h)
  | crcCheck => exact runCommand_inv h hx (ends_require h)
  | chunkHdr => exact runCommand_inv h hx (readHeader_ends h)
  | chunkRead =>
    unfold exec execChunkRead at hx
    exact runCommand_inv h hx (ends_andThen (readBody_ends h _) fun _ _ _ hu => hu)
  | chunkSkip => exact runCommand_inv h hx (chunkSkip_ends h)
  | chunkEmit => exact runCommand_inv h hx (chunkEmit_ends h)
  | idatRun =>
    cases hx
    split
    · exact h.inv
    · rename_i herr
      exact idatRun_inv h (Bool.eq_false_iff.2 herr)
  | idatEmit => exact runCommand_inv h hx (idatEmit_ends h)
  | unfilterRow => exact runCommand_inv h hx (unfilterOne_ends h)
  | unfilterAll => exact runCommand_inv h hx (unfilterAll_ends h)
  | filterRow ft => exact runCommand_inv h hx (withFilterType_ends h ft fun f => filterOne_ends ft f h)
  | filterAll ft => exact runCommand_inv h hx (withFilterType_ends h ft fun f => filterAll_ends ft f h)
  | unpackRow => exact runCommand_inv h hx (unpackOne_ends h)
  | unpackAll => exact runCommand_inv h hx (unpackAll_ends h)
  | packRow => exact runCommand_inv h hx (packOne_ends h)
  | packAll => exact runCommand_inv h hx (packAll_ends h)

/-- Every command word, a legal one or not (30_encoding.md R95). -/
theorem issueCommand_inv {w : Word} {s t : State} (h : Keeping false s) (hx : issueCommand w s = .next t) : t.Inv := by
  unfold issueCommand at hx
  split at hx
  · exact exec_inv h hx
  · exact runCommand_inv h hx ⟨h, by decide⟩

/-! ## Host accesses (20_memory.md R65 to R68) -/

/-- A geometry write leaves no derived geometry, whatever it stored (10_state.md R31). -/
theorem Keeping.invalidateGeometry {s : State} (h : Keeping false s) (r : Regs) (hr : r.status = s.regs.status) :
    Keeping false { s with regs := invalidateGeometry r } where
  inv := { h.inv with
    configured := nofun
    underived := fun _ => ⟨rfl, rfl, rfl, rfl, rfl⟩
    noError := by simpa [hr] using h.inv.noError
    error := by simpa [hr] using h.inv.error
    failed := by simpa [hr] using h.inv.failed
    framed := nofun
    runCfg := fun hrun => nomatch h.running.symm.trans hrun
    runErr := fun hrun => nomatch h.running.symm.trans hrun
    runIdle := fun hrun => nomatch h.running.symm.trans hrun
    runTag := fun hrun => nomatch h.running.symm.trans hrun }
  running := h.running

theorem Keeping.regWrite {s : State} (h : Keeping false s) (reg : Reg) (v : Word) :
    Keeping false { s with regs := regWrite s.regs reg v } := by
  cases reg
  case width | height | bitDepth | colorType | compression | filterMethod | interlace =>
    exact h.invalidateGeometry _ rfl
  case chunkType => exact h.setChunk s.regs.chunkLen v nofun
  all_goals exact h.congr rfl

theorem hostRegWrite_inv {off : Nat} {v : Word} {s t : State} (h : Keeping false s)
    (hx : hostRegWrite off v s = .next t) : t.Inv := by
  unfold hostRegWrite at hx
  split at hx
  · cases hx; exact h.inv
  · exact issueCommand_inv h hx
  · cases hx; exact (h.regWrite _ v).inv

/-- A buffer access that is not refused lies below the capacity (R68). -/
theorem resolve_buffer_lt {p : Params} {addr : Word} {width : Width} {sp : Space} {off : Nat}
    (h : resolve p addr width = .ok (.buffer sp off)) : off < p.cap sp := by
  unfold resolve at h
  split at h
  · split at h <;> cases h
  · split at h
    · cases h
    · split at h
      · cases h
      · rename_i hcap
        split at h <;> cases h
        exact Nat.lt_of_not_le hcap

theorem hostRead_inv {addr : Word} {width : Width} {s t : State} (h : Keeping false s)
    (hx : hostRead addr width s = .next t) : t.Inv := by
  unfold hostRead at hx
  split at hx <;> cases hx
  · exact (h.replied _).inv
  · exact (h.replied _).inv

theorem hostWrite_inv {addr data : Word} {width : Width} {s t : State} (h : Keeping false s)
    (hx : hostWrite addr width data s = .next t) : t.Inv := by
  unfold hostWrite at hx
  split at hx
  · cases hx
  · exact hostRegWrite_inv h hx
  · rename_i sp off hr
    cases hx
    exact (h.memWrite (resolve_buffer_lt hr)).inv

/-! ## The step -/

/-- A step to which no power-on comes first: a turn of a run, or the host's oldest access. -/
theorem proceed_inv {s t : State} (h : s.Inv) (hx : proceed s = .next t) : t.Inv := by
  unfold proceed at hx
  split at hx
  · cases hx
  · split at hx
    · rename_i hrun
      cases hx
      exact idatTurn_inv ⟨h, hrun⟩
    · rename_i hrun
      have hk : Keeping false s := ⟨h, Bool.eq_false_iff.2 hrun⟩
      split at hx
      · cases hx; exact h
      · exact hostRead_inv (hk.hostTaken _) hx
      · exact hostWrite_inv (hk.hostTaken _) hx
      · cases hx; exact powerOnReset_inv (hk.hostTaken _).inv

/-- Settles O53, by cases on what the step is: power-on, a turn of a run, or the host's oldest access. -/
theorem stepKeepsInvariant : Obligations.StepKeepsInvariant := by
  intro s t h hx
  unfold step advance at hx
  split at hx
  · cases hx
    exact powerOnReset_inv (Keeping.hostTaken ⟨h, rfl⟩ _).inv
  · exact proceed_inv h hx

end Sys2Proof.Machine
end

section
/-! PROOFS. The geometry registers, the derived geometry and CFG under the commands (10_state.md R23 to R36): all but
RESET and CONFIGURE leave them. The pseudocode of each command ends with the geometry it began with, however it ends. -/

set_option autoImplicit false

namespace Sys2Proof.Machine

/-- The registers with everything but the geometry, the derived geometry and CFG at its reset value. -/
def geometryView (r : Regs) : Regs :=
  { Regs.reset with
    status := { Regs.reset.status with cfg := r.status.cfg }
    width := r.width, height := r.height, bitDepth := r.bitDepth, colorType := r.colorType
    compression := r.compression, filterMethod := r.filterMethod, interlace := r.interlace
    channels := r.channels, stride := r.stride, pitch := r.pitch, slbSize := r.slbSize, pixSize := r.pixSize }

/-- The state holds the geometry, the derived geometry and the CFG of `g`. -/
def HasGeometry (g : Regs) (s : State) : Prop := geometryView s.regs = geometryView g

section
variable {g : Regs} {s t : State}

/-- An update of other registers, of the buffers or of the ports. -/
theorem HasGeometry.congr (h : HasGeometry g s) (hv : geometryView t.regs = geometryView s.regs) : HasGeometry g t :=
  hv.trans h

/-! ## The filters and the bit-depth units (43_filter.md, 44_bitdepth.md) -/

theorem unfilterNext_ends_geometry (s : State) (h : HasGeometry g s) : (unfilterNext s).Ends (HasGeometry g) := by
  rcases unfilterNext_cases s with ⟨-, he⟩ | ⟨ft, -, he⟩ <;> rw [he]
  · exact ⟨h, by decide⟩
  · exact h.congr rfl

theorem filterNext_ends_geometry (ftByte : Byte) (ft : FilterType) (s : State) (h : HasGeometry g s) :
    (filterNext ftByte ft s).Ends (HasGeometry g) := by
  rw [filterNext_eq]
  exact h.congr rfl

theorem unpackNext_ends_geometry (s : State) (h : HasGeometry g s) : (unpackNext s).Ends (HasGeometry g) := by
  rw [unpackNext_eq]
  exact h.congr rfl

theorem packNext_ends_geometry (s : State) (h : HasGeometry g s) : (packNext s).Ends (HasGeometry g) := by
  rcases packNext_cases s with ⟨-, he⟩ | ⟨-, he⟩ <;> rw [he]
  · exact ⟨h, by decide⟩
  · exact h.congr rfl

/-- A row command: CFG, a row left, the row. -/
theorem rowCommand_ends_geometry (h : HasGeometry g s) {left : State → Bool} {body : State → Result Unit}
    (hb : ∀ u, HasGeometry g u → (body u).Ends (HasGeometry g)) :
    ((require s.regs.status.cfg .sequenceError s).andThen fun _ s =>
      (require (left s) .sequenceError s).andThen fun _ s => body s).Ends (HasGeometry g) :=
  ends_require_andThen h fun _ => ends_require_andThen h fun _ => hb s h

/-- A command over all the rows left: CFG, then the loop. -/
theorem allRowsCommand_ends_geometry (h : HasGeometry g s) {left : State → Nat} {body : State → Result Unit}
    (hb : ∀ u, HasGeometry g u → (body u).Ends (HasGeometry g)) :
    ((require s.regs.status.cfg .sequenceError s).andThen fun _ s => repeatRows body (left s) s).Ends
      (HasGeometry g) :=
  ends_require_andThen h fun _ => ends_repeatRows hb _ s h

/-- A FILTER command, whose operand may name no filter. -/
theorem withFilterType_ends_geometry (h : HasGeometry g s) (ftByte : Byte) {body : FilterType → State → Result Unit}
    (hb : ∀ ft, (body ft s).Ends (HasGeometry g)) : (withFilterType ftByte body s).Ends (HasGeometry g) := by
  unfold withFilterType
  split
  · exact ⟨h, by decide⟩
  · exact hb _

/-! ## The chunk commands (41_crc.md, 42_framer.md) -/

theorem crcCsb_ends_geometry (h : HasGeometry g s) : (crcCsb s).Ends (HasGeometry g) :=
  ends_require_andThen h fun _ => h.congr rfl

theorem streamRead_ends_geometry (h : HasGeometry g s) (n : Nat) : (streamRead n s).Ends (HasGeometry g) :=
  ends_streamRead h fun _ _ _ => h.congr rfl

theorem readHeader_ends_geometry (h : HasGeometry g s) : (readHeader s).Ends (HasGeometry g) :=
  ends_andThen (streamRead_ends_geometry h 8) fun _ _ _ hu => ends_require_andThen hu fun _ => hu.congr rfl

theorem readBody_ends_geometry (h : HasGeometry g s) (ty : Word) : (readBody ty s).Ends (HasGeometry g) := by
  rcases readBody_cases ty s with ⟨-, he⟩ | ⟨-, ⟨-, he⟩ | ⟨p, src, -, ⟨-, he⟩ | ⟨-, he⟩⟩⟩ <;> rw [he]
  · exact ⟨h, by decide⟩
  · exact h
  · exact ⟨h.congr rfl, by decide⟩
  · have kept : HasGeometry g (bodyKept s p src) := h.congr rfl
    exact ends_andThen (streamRead_ends_geometry kept 4) fun _ _ _ hu => ends_require_andThen hu fun _ =>
      ends_require_andThen (hu.congr rfl) fun _ => hu.congr rfl

theorem chunkSkip_ends_geometry (h : HasGeometry g s) : (chunkSkip s).Ends (HasGeometry g) :=
  ends_andThen (streamRead_ends_geometry h _) fun _ _ _ hu => ends_require hu

theorem emitChunk_ends_geometry (h : HasGeometry g s) (ty : Word) (p : List Byte) :
    (emitChunk ty p s).Ends (HasGeometry g) :=
  ends_streamWrite (h.congr rfl) fun _ => h.congr rfl

theorem chunkEmit_ends_geometry (h : HasGeometry g s) : (chunkEmit s).Ends (HasGeometry g) :=
  ends_require_andThen h fun _ => emitChunk_ends_geometry h _ _

theorem idatEmit_ends_geometry (h : HasGeometry g s) : (idatEmit s).Ends (HasGeometry g) :=
  ends_require_andThen h fun _ => ends_require_andThen (h.congr rfl) fun _ =>
    have latched (len : Word) : HasGeometry g (setChunk len idatTag (deflateCalled s)) := h.congr rfl
    emitChunk_ends_geometry (latched _) _ _

/-! ## The IDAT run (42_framer.md R169 to R173) -/

theorem feedInflater_ends_geometry (h : HasGeometry g s) (p : List Byte) :
    (feedInflater p s).Ends (HasGeometry g) :=
  ends_require_andThen (h.congr rfl) fun _ => ends_require_andThen (h.congr rfl) fun _ => h.congr rfl

theorem idatNext_ends_geometry (h : HasGeometry g s) : (idatNext s).Ends (HasGeometry g) := by
  refine ends_andThen (readHeader_ends_geometry h) fun _ u _ hu => ?_
  split
  · exact hu
  · exact ends_require_andThen hu fun _ => hu.congr rfl

/-- Entering an error of a run leaves the geometry as every error entry does. -/
theorem settleRun_hasGeometry {r : Result Unit} (h : r.Ends (HasGeometry g)) : HasGeometry g (settleRun r) := by
  cases r with
  | ok _ u => exact h
  | raised e u => exact h.1.congr rfl
  | blocked w u => exact HasGeometry.congr h rfl

theorem idatTurn_hasGeometry (h : HasGeometry g s) : HasGeometry g (idatTurn s) :=
  settleRun_hasGeometry <|
    ends_andThen (ends_andThen (readBody_ends_geometry h idatTag) fun p _ _ hu => feedInflater_ends_geometry hu p)
      fun _ _ _ hu => idatNext_ends_geometry hu

theorem idatStart_ends_geometry (h : HasGeometry g s) : (idatStart s).Ends (HasGeometry g) :=
  ends_require_andThen h fun _ => ends_require_andThen h fun _ => ends_require_andThen h fun _ => h.congr rfl

theorem idatRun_hasGeometry (h : HasGeometry g s) : HasGeometry g (idatRun s) := by
  have hstart := idatStart_ends_geometry h
  unfold idatRun
  cases hr : idatStart s <;> rw [hr] at hstart
  case ok => exact idatTurn_hasGeometry hstart
  case raised => exact hstart.1.congr rfl
  case blocked => exact HasGeometry.congr hstart rfl

/-! ## Commands -/

/-- A command whose pseudocode ends with the geometry it began with. -/
theorem runCommand_hasGeometry {op : Byte} {body : State → Result Unit} (h : HasGeometry g s)
    (hx : runCommand op body s = .next t) (hb : (body s).Ends (HasGeometry g)) : HasGeometry g t := by
  cases herr : s.regs.status.err
  · rw [runCommand_ready herr] at hx
    cases hx
    exact settle_of_ends hb (fun _ hu => hu) (fun _ _ hu _ => hu.congr rfl) fun _ _ hu => hu.congr rfl
  · rw [runCommand_sticky herr] at hx
    cases hx
    exact h

/-- Every command but RESET and CONFIGURE leaves the geometry, the derived geometry and CFG. -/
theorem exec_hasGeometry {i : Instr} (hreset : ∀ b, i ≠ .reset b) (hconf : i ≠ .configure) (h : HasGeometry g s)
    (hx : exec i s = .next t) : HasGeometry g t := by
  cases i with
  | nop => exact runCommand_hasGeometry h hx h
  | reset b => exact absurd rfl (hreset b)
  | configure => exact absurd rfl hconf
  | crcInit =>
    unfold exec execCrcInit at hx
    exact runCommand_hasGeometry h hx (h.congr rfl)
  | crcType =>
    unfold exec execCrcType at hx
    exact runCommand_hasGeometry h hx (h.congr rfl)
  | crcCsb => exact runCommand_hasGeometry h hx (crcCsb_ends_geometry h)
  | crcCheck => exact runCommand_hasGeometry h hx (ends_require h)
  | chunkHdr => exact runCommand_hasGeometry h hx (readHeader_ends_geometry h)
  | chunkRead =>
    unfold exec execChunkRead at hx
    exact runCommand_hasGeometry h hx (ends_andThen (readBody_ends_geometry h _) fun _ _ _ hu => hu)
  | chunkSkip => exact runCommand_hasGeometry h hx (chunkSkip_ends_geometry h)
  | chunkEmit => exact runCommand_hasGeometry h hx (chunkEmit_ends_geometry h)
  | idatRun =>
    cases hx
    split
    · exact h
    · exact idatRun_hasGeometry h
  | idatEmit => exact runCommand_hasGeometry h hx (idatEmit_ends_geometry h)
  | unfilterRow => exact runCommand_hasGeometry h hx (rowCommand_ends_geometry h unfilterNext_ends_geometry)
  | unfilterAll => exact runCommand_hasGeometry h hx (allRowsCommand_ends_geometry h unfilterNext_ends_geometry)
  | filterRow ft =>
    exact runCommand_hasGeometry h hx <| withFilterType_ends_geometry h ft fun f =>
      rowCommand_ends_geometry h (filterNext_ends_geometry ft f)
  | filterAll ft =>
    exact runCommand_hasGeometry h hx <| withFilterType_ends_geometry h ft fun f =>
      allRowsCommand_ends_geometry h (filterNext_ends_geometry ft f)
  | unpackRow => exact runCommand_hasGeometry h hx (rowCommand_ends_geometry h unpackNext_ends_geometry)
  | unpackAll => exact runCommand_hasGeometry h hx (allRowsCommand_ends_geometry h unpackNext_ends_geometry)
  | packRow => exact runCommand_hasGeometry h hx (rowCommand_ends_geometry h packNext_ends_geometry)
  | packAll => exact runCommand_hasGeometry h hx (allRowsCommand_ends_geometry h packNext_ends_geometry)

end

/-- Settles O14: a command leaves the whole view of the geometry, and so each register in it. -/
theorem onlyResetAndConfigureChangeGeometry : Obligations.OnlyResetAndConfigureChangeGeometry := by
  intro i s t hreset hconf hx
  have kept {α : Type} (field : Regs → α) : field (geometryView t.regs) = field (geometryView s.regs) :=
    congrArg field (exec_hasGeometry hreset hconf (g := s.regs) rfl hx)
  exact ⟨kept Regs.width, kept Regs.height, kept Regs.bitDepth, kept Regs.colorType, kept Regs.compression,
    kept Regs.filterMethod, kept Regs.interlace, kept Regs.channels, kept Regs.stride, kept Regs.pitch,
    kept Regs.slbSize, kept Regs.pixSize, kept (·.status.cfg)⟩

end Sys2Proof.Machine
end

section
/-! PROOFS. The register window (10_state.md R22, 20_memory.md R65 and R66): where each register stands, what a word
access to it does, and which command the host's oldest access runs. -/

set_option autoImplicit false

namespace Sys2Proof.Machine

/-! ## The register map -/

/-- Every register stands at its own offset. -/
@[simp] theorem regAt_regAddress (r : Reg) : regAt (regAddress r).toNat = some r := by
  cases r <;> rfl

/-- A register is found at its own offset only. -/
theorem regAddress_of_regAt {off : Nat} {r : Reg} (h : regAt off = some r) : (regAddress r).toNat = off := by
  unfold regAt at h
  split at h <;> cases h <;> rfl

/-- No register stands above CMD (R51). -/
theorem regAt_above {off : Nat} (h : 0x6C ≤ off) : regAt off = none := by
  refine Option.eq_none_iff_forall_ne_some.2 fun r hr => ?_
  have haddr : (regAddress r).toNat ≤ 0x68 := by cases r <;> decide
  rw [regAddress_of_regAt hr] at haddr
  omega

/-! ## A word access to the register window -/

section
variable {off : Word} (hoff : off.toNat < 0x100) (halign : off.toNat % 4 = 0) (s : State)
include hoff halign

/-- An aligned word below 0x100 names the register window (R65, R68). -/
theorem resolve_register (p : Params) : resolve p off .word = .ok (.register off.toNat) := by
  simp [resolve, hoff, halign]

theorem hostRead_register : hostRead off .word s = .next (hostRegRead off.toNat s) := by
  rw [hostRead, resolve_register hoff halign]

theorem hostWrite_register (v : Word) : hostWrite off .word v s = hostRegWrite off.toNat v s := by
  rw [hostWrite, resolve_register hoff halign]

end

theorem regAddress_lt (r : Reg) : (regAddress r).toNat < 0x100 := by
  cases r <;> decide

theorem regAddress_aligned (r : Reg) : (regAddress r).toNat % 4 = 0 := by
  cases r <;> rfl

/-- A read of a register answers its view and changes nothing else (R66). -/
theorem hostRead_regAddress (r : Reg) (s : State) :
    hostRead (regAddress r) .word s = .next { s with reply := some (regRead s.regs r) } := by
  rw [hostRead_register (regAddress_lt r) (regAddress_aligned r), hostRegRead, regAt_regAddress, Option.elim_some]

/-- A write to a register other than CMD changes the registers alone (R66). -/
theorem hostRegWrite_of_regAt {off : Nat} {r : Reg} (h : regAt off = some r) (hr : r ≠ .cmd) (v : Word) (s : State) :
    hostRegWrite off v s = .next { s with regs := regWrite s.regs r v } := by
  -- `hr` rules out the arm that issues a command.
  simp [hostRegWrite, h]

theorem hostWrite_regAddress {r : Reg} (hr : r ≠ .cmd) (v : Word) (s : State) :
    hostWrite (regAddress r) .word v s = .next { s with regs := regWrite s.regs r v } := by
  rw [hostWrite_register (regAddress_lt r) (regAddress_aligned r), hostRegWrite_of_regAt (regAt_regAddress r) hr]

/-- A write to CMD issues the command (R50). -/
theorem hostWrite_cmd (w : Word) (s : State) : hostWrite cmdAddress .word w s = issueCommand w s :=
  hostWrite_register (regAddress_lt .cmd) (regAddress_aligned .cmd) s w

/-- A word that decodes runs its command (30_encoding.md R104). -/
theorem issueCommand_of_decode {w : Word} {i : Instr} (h : decode w = .ok i) (s : State) :
    issueCommand w s = exec i s := by
  rw [issueCommand, h]

/-! ## A step of an idle block -/

section
variable {s : State} (h : s.Idle)
include h

theorem step_idle_waiting (hs : s.host = []) : step s = .next s := by
  simp [step, advance, proceed, h.notHung, h.notRunning, hs]

theorem step_idle_read {a : Word} {width : Width} {rest : List HostEvent} (hs : s.host = .read a width :: rest) :
    step s = hostRead a width { s with host := rest } := by
  simp [step, advance, proceed, h.notHung, h.notRunning, hs]

theorem step_idle_write {a v : Word} {width : Width} {rest : List HostEvent}
    (hs : s.host = .write a width v :: rest) : step s = hostWrite a width v { s with host := rest } := by
  simp [step, advance, proceed, h.notHung, h.notRunning, hs]

end

/-- Settles O6: an idle block takes the oldest access, and a write to CMD is the decoded command. -/
theorem stepRunsTheWrittenCommand : Obligations.StepRunsTheWrittenCommand := by
  intro s h
  refine ⟨fun w i rest hs hd => ?_, fun a width rest hs => step_idle_read h hs,
    fun a v width rest hs => step_idle_write h hs, step_idle_waiting h⟩
  rw [step_idle_write h hs, hostWrite_cmd, issueCommand_of_decode hd]

/-! ## Register writes -/

/-- Settles O55: each geometry write is the store of the used bits followed by the invalidation. -/
theorem geometryWriteUnconfigures : Obligations.GeometryWriteUnconfigures := by
  intro s v
  have used : v.setWidth 8 = v.extractLsb' 0 8 := BitVec.setWidth_eq_extractLsb' (by decide)
  dsimp only
  rw [← used]
  exact ⟨hostWrite_regAddress (r := .width) nofun v s, hostWrite_regAddress (r := .height) nofun v s,
    hostWrite_regAddress (r := .bitDepth) nofun v s, hostWrite_regAddress (r := .colorType) nofun v s,
    hostWrite_regAddress (r := .compression) nofun v s, hostWrite_regAddress (r := .filterMethod) nofun v s,
    hostWrite_regAddress (r := .interlace) nofun v s⟩

/-- The registers the host cannot write (the RO rows of R22). -/
def readOnlyRegs : List Reg :=
  [.status, .channels, .stride, .pitch, .slbSize, .pixSize, .ufRow, .upRow, .pkRow, .feLeft, .crcAcc, .crcResult,
   .frOut, .inPos, .outPos, .idatCount]

/-- A read-only register ignores a write (R51). -/
theorem regWrite_readOnly {reg : Reg} (h : reg ∈ readOnlyRegs) (r : Regs) (v : Word) : regWrite r reg v = r := by
  revert reg
  simp [readOnlyRegs, regWrite]

/-- The offsets of the read-only registers: STATUS, CHANNELS to CRC_RESULT, FR_OUT to IDAT_COUNT (R22). -/
theorem mem_readOnlyRegs_of_address (r : Reg) :
    ((regAddress r).toNat = 0 ∨ (0x20 ≤ (regAddress r).toNat ∧ (regAddress r).toNat ≤ 0x48) ∨
      (0x58 ≤ (regAddress r).toNat ∧ (regAddress r).toNat ≤ 0x64)) → r ∈ readOnlyRegs := by
  cases r <;> decide

/-- Settles O56: the offset holds a read-only register, none at all, one of the three RW registers, or CMD. -/
theorem otherRegisterWrites : Obligations.OtherRegisterWrites := by
  intro s v
  refine ⟨fun off hoff halign hro => ?_, hostWrite_regAddress (r := .crcExpect) nofun v s,
    hostWrite_regAddress (r := .chunkLen) nofun v s, hostWrite_regAddress (r := .chunkType) nofun v s,
    hostWrite_cmd v s⟩
  rw [hostWrite_register hoff halign]
  cases hr : regAt off.toNat with
  | none => rw [hostRegWrite, hr]
  | some r =>
    have hmem : r ∈ readOnlyRegs := by
      apply mem_readOnlyRegs_of_address
      have hlt : ¬ 0x6C ≤ off.toNat := fun h => by simp [regAt_above h] at hr
      rw [regAddress_of_regAt hr]
      rcases hro with rfl | hro
      · exact .inl rfl
      · omega
    rw [hostRegWrite_of_regAt hr (ne_of_mem_of_not_mem hmem (by decide)), regWrite_readOnly hmem]

/-! ## Register reads -/

/-- A concatenation as a number: the upper part above the lower. -/
theorem toNat_append_add {m n : Nat} (x : BitVec m) (y : BitVec n) :
    (x ++ y).toNat = x.toNat * 2 ^ n + y.toNat := by
  rw [BitVec.toNat_append, ← Nat.shiftLeft_add_eq_or_of_lt y.isLt, Nat.shiftLeft_eq]

/-- The 32-bit view of STATUS as a number (R23). -/
theorem statusWord_toNat (st : Status) : (statusWord st).toNat =
    st.errOp.toNat * 2 ^ 16 + st.errCode.toNat * 2 ^ 8 + (frStateCode st.frState).toNat * 2 ^ 2 +
      st.cfg.toNat * 2 + st.err.toNat := by
  simp only [statusWord, toNat_append_add, BitVec.toNat_ofBool, BitVec.toNat_ofNat]
  omega

/-- Settles O57: STATUS by the digits of its view, each other register by its own view, a reserved offset by 0. -/
theorem registerReads : Obligations.RegisterReads := by
  intro s
  have reserved (off : Word) (habove : 0x6C ≤ off.toNat) (hoff : off.toNat < 0x100) (halign : off.toNat % 4 = 0) :
      hostRead off .word s = .next { s with reply := some 0#32 } := by
    rw [hostRead_register hoff halign, hostRegRead, regAt_above habove, Option.elim_none]
  refine ⟨⟨statusWord s.regs.status, hostRead_regAddress .status s, ?_⟩,
    hostRead_regAddress .width s, hostRead_regAddress .height s, hostRead_regAddress .bitDepth s,
    hostRead_regAddress .colorType s, hostRead_regAddress .compression s, hostRead_regAddress .filterMethod s,
    hostRead_regAddress .interlace s, hostRead_regAddress .channels s, hostRead_regAddress .stride s,
    hostRead_regAddress .pitch s, hostRead_regAddress .slbSize s, hostRead_regAddress .pixSize s,
    hostRead_regAddress .ufRow s, hostRead_regAddress .upRow s, hostRead_regAddress .pkRow s,
    hostRead_regAddress .feLeft s, hostRead_regAddress .crcAcc s, hostRead_regAddress .crcResult s,
    hostRead_regAddress .crcExpect s, hostRead_regAddress .chunkLen s, hostRead_regAddress .chunkType s,
    hostRead_regAddress .frOut s, hostRead_regAddress .inPos s, hostRead_regAddress .outPos s,
    hostRead_regAddress .idatCount s, hostRead_regAddress .cmd s, reserved⟩
  have herr := Bool.toNat_lt s.regs.status.err
  have hcfg := Bool.toNat_lt s.regs.status.cfg
  have hcode := s.regs.status.errCode.isLt
  have hop := s.regs.status.errOp.isLt
  rw [statusWord_toNat]
  cases s.regs.status.frState <;> simp only [frStateCode, BitVec.toNat_ofNat] <;> omega

end Sys2Proof.Machine
end

section
/-! PROOFS. Buffer accesses (20_memory.md R61, R65, R67, R68): what a write of a byte sequence stores, which address
names which byte, and which host accesses are refused. -/

set_option autoImplicit false

namespace Sys2Proof.Machine

/-- Settles O48: a read after a write finds the written byte inside the range and the old one outside it. -/
theorem memWriteChangesOnlyItsBytes : Obligations.MemWriteChangesOnlyItsBytes := by
  refine fun s sp addr bs => ⟨fun j hj => ?_, fun sp' a' h => readByte_memWrite_outside s sp sp' addr a' bs h,
    memRead_memWrite_same s sp addr bs⟩
  rw [readByte_memWrite, if_pos ⟨rfl, by omega, by omega⟩, Nat.add_sub_cancel_left]

/-! ## The buffer windows -/

/-- Every buffer has its own window of 2^28 addresses (R65). -/
theorem windowOf_eq_some_iff {addr : Nat} {sp : Space} :
    windowOf addr = some sp ↔ (spaceBase sp).toNat ≤ addr ∧ addr < (spaceBase sp).toNat + 2 ^ 28 := by
  have hbase : (spaceBase .slb).toNat = 0x10000000 ∧ (spaceBase .pix).toNat = 0x20000000 ∧
      (spaceBase .csb).toNat = 0x30000000 := by decide
  obtain ⟨hslb, hpix, hcsb⟩ := hbase
  unfold windowOf
  split
  case h_4 h1 h2 h3 =>
    have hnone : addr / 0x10000000 ≠ 1 ∧ addr / 0x10000000 ≠ 2 ∧ addr / 0x10000000 ≠ 3 := ⟨h1, h2, h3⟩
    cases sp <;> simp only [hslb, hpix, hcsb, reduceCtorEq, false_iff] <;> omega
  all_goals cases sp <;> simp [hslb, hpix, hcsb] <;> omega

/-- No capacity exceeds a window (00_scope.md R6). -/
theorem cap_le_of_legal {p : Params} (h : p.Legal) (sp : Space) : p.cap sp ≤ 2 ^ 28 := by
  obtain ⟨⟨-, hslb⟩, ⟨-, hpix⟩, ⟨-, hcsb⟩, -⟩ := h
  cases sp
  · exact hslb
  · exact hpix
  · exact hcsb

/-- A byte access below a buffer's capacity names that byte (R65, R67). -/
theorem resolve_byte {p : Params} (h : p.Legal) {sp : Space} {addr : Word} (hlo : (spaceBase sp).toNat ≤ addr.toNat)
    (hhi : addr.toNat < (spaceBase sp).toNat + p.cap sp) :
    resolve p addr .byte = .ok (.buffer sp (addr.toNat - (spaceBase sp).toNat)) := by
  have hcap := cap_le_of_legal h sp
  have hbase : 0x100 ≤ (spaceBase sp).toNat ∧ (spaceBase sp).toNat % 0x10000000 = 0 := by cases sp <;> decide
  have hwindow : windowOf addr.toNat = some sp := windowOf_eq_some_iff.2 ⟨hlo, by omega⟩
  have hoff : addr.toNat % 0x10000000 = addr.toNat - (spaceBase sp).toNat := by omega
  have hhigh : ¬ addr.toNat < 0x100 := by omega
  have hin : ¬ p.cap sp ≤ addr.toNat - (spaceBase sp).toNat := by omega
  simp only [resolve, hwindow, hoff, if_neg hhigh, if_neg hin, if_true]

/-- Settles O58: the access resolves to the byte, and a byte write is a write of one byte to the buffer. -/
theorem bufferAccesses : Obligations.BufferAccesses := by
  intro s sp off v hp hoff
  have haddr : (spaceBase sp + off).toNat = (spaceBase sp).toNat + off.toNat := by
    have hcap := cap_le_of_legal hp sp
    have hbase : (spaceBase sp).toNat ≤ 0x30000000 := by cases sp <;> decide
    rw [BitVec.toNat_add]
    omega
  have hres : resolve s.params (spaceBase sp + off) .byte = .ok (.buffer sp off.toNat) := by
    rw [resolve_byte hp (sp := sp) (by omega) (by omega), haddr, Nat.add_sub_cancel_left]
  refine ⟨by rw [hostRead, hres]; rfl, hostBufWrite sp off.toNat v s, by rw [hostWrite, hres], ?_, ?_, ?_⟩
  · rw [hostBufWrite, readByte_memWrite, if_pos ⟨rfl, le_rfl, Nat.lt_succ_self _⟩, Nat.sub_self]
    show v.setWidth 8 = v.extractLsb' 0 8
    exact BitVec.setWidth_eq_extractLsb' (by decide)
  · exact fun sp' a' h => readByte_memWrite_outside s sp sp' _ a' _ h
  · exact memWrite_regs s sp _ _

/-! ## Refused accesses -/

/-- The host accesses R68 forbids: misaligned or narrow register accesses, and every access from 0x100 up that is not
of one byte below the capacity of a buffer. -/
def ForbiddenAccess (p : Params) (addr : Word) (width : Width) : Prop :=
  addr.toNat < 0x100 ∧ (addr.toNat % 4 ≠ 0 ∨ width ≠ .word) ∨
    0x100 ≤ addr.toNat ∧ ∀ sp, addr.toNat < (spaceBase sp).toNat ∨ (spaceBase sp).toNat + p.cap sp ≤ addr.toNat ∨
      width ≠ .byte

/-- An access that is not forbidden has a target. -/
theorem resolve_of_not_forbidden {p : Params} (hp : p.Legal) {addr : Word} {width : Width}
    (h : ¬ ForbiddenAccess p addr width) : ∃ target, resolve p addr width = .ok target := by
  rw [ForbiddenAccess, not_or, not_and, not_and] at h
  obtain ⟨hreg, hbuf⟩ := h
  by_cases hlow : addr.toNat < 0x100
  · have hform := hreg hlow
    simp only [not_or, not_not] at hform
    obtain ⟨halign, rfl⟩ := hform
    exact ⟨_, resolve_register hlow halign p⟩
  · have hbyte := hbuf (Nat.le_of_not_lt hlow)
    simp only [not_forall, not_or, not_lt, not_le, not_not] at hbyte
    obtain ⟨sp, hlo, hhi, rfl⟩ := hbyte
    exact ⟨_, resolve_byte hp hlo hhi⟩

/-- A forbidden access has no target: below 0x100 by its form, above by its window, its offset or its width. -/
theorem resolve_of_forbidden {p : Params} {addr : Word} {width : Width} (h : ForbiddenAccess p addr width) :
    ∃ r, resolve p addr width = .error r := by
  obtain ⟨hlow, hform⟩ | ⟨hhigh, hbuf⟩ := h <;> unfold resolve
  · rw [if_pos hlow, if_neg (not_and_or.2 hform)]
    exact ⟨_, rfl⟩
  · rw [if_neg (Nat.not_lt.2 hhigh)]
    cases hw : windowOf addr.toNat with
    | none => exact ⟨_, rfl⟩
    | some sp =>
      have hbase : (spaceBase sp).toNat % 0x10000000 = 0 := by cases sp <;> decide
      obtain ⟨hlo, hhi⟩ := windowOf_eq_some_iff.1 hw
      by_cases hcap : p.cap sp ≤ addr.toNat % 0x10000000
      · exact ⟨_, if_pos hcap⟩
      · have hwidth : width ≠ .byte := by
          rcases hbuf sp with hlt | hge | hne
          · omega
          · omega
          · exact hne
        simp only [if_neg hcap, if_neg hwidth]
        exact ⟨_, rfl⟩

/-- Resolving an access fails exactly where R68 forbids it. -/
theorem resolve_error_iff {p : Params} (hp : p.Legal) (addr : Word) (width : Width) :
    (∃ r, resolve p addr width = .error r) ↔ ForbiddenAccess p addr width := by
  refine ⟨fun ⟨r, hr⟩ => ?_, resolve_of_forbidden⟩
  by_contra h
  obtain ⟨target, ht⟩ := resolve_of_not_forbidden hp h
  rw [ht] at hr
  cases hr

/-- Every command answers a next state, in every state. -/
theorem exec_next (i : Instr) (s : State) : ∃ t, exec i s = .next t := by
  cases i <;> exact ⟨_, rfl⟩

theorem issueCommand_next (w : Word) (s : State) : ∃ t, issueCommand w s = .next t := by
  unfold issueCommand
  split
  · exact exec_next _ s
  · exact ⟨_, rfl⟩

theorem hostRegWrite_next (off : Nat) (v : Word) (s : State) : ∃ t, hostRegWrite off v s = .next t := by
  unfold hostRegWrite
  split
  · exact ⟨_, rfl⟩
  · exact issueCommand_next v s
  · exact ⟨_, rfl⟩

/-- A read is refused exactly when its address does not resolve. -/
theorem hostRead_refused_iff (addr : Word) (width : Width) (s : State) :
    (∃ r, hostRead addr width s = .refused r) ↔ ∃ r, resolve s.params addr width = .error r := by
  unfold hostRead
  split <;> rename_i hres <;> simp [hres]

/-- A write is refused exactly when its address does not resolve: no command it may issue is refused. -/
theorem hostWrite_refused_iff (addr v : Word) (width : Width) (s : State) :
    (∃ r, hostWrite addr width v s = .refused r) ↔ ∃ r, resolve s.params addr width = .error r := by
  unfold hostWrite
  split
  · rename_i hres
    simp [hres]
  · rename_i off hres
    obtain ⟨t, ht⟩ := hostRegWrite_next off v s
    simp [hres, ht]
  · rename_i hres
    simp [hres]

/-- Settles O59: both accesses are refused exactly when the address does not resolve. -/
theorem refusedAccesses : Obligations.RefusedAccesses := fun s addr v width hp =>
  ⟨(hostRead_refused_iff addr width s).trans (resolve_error_iff hp addr width),
    (hostWrite_refused_iff addr v width s).trans (resolve_error_iff hp addr width)⟩

end Sys2Proof.Machine
end

section
/-! PROOFS. Which buffer bytes the commands leave alone (20_memory.md R61 to R64). `ChangesOnly` bounds the bytes that
differ from a starting state; each piece of pseudocode ends with that bound, however it ends. -/

set_option autoImplicit false

namespace Sys2Proof.Machine

/-! ## Bounds on the bytes that differ -/

/-- Every buffer byte outside the region reads in t as in s. -/
def ChangesOnly (region : Space → Nat → Prop) (s t : State) : Prop :=
  ∀ sp a, ¬ region sp a → readByte t sp a = readByte s sp a

section
variable {region : Space → Nat → Prop} {s t u : State}

theorem ChangesOnly.refl (region : Space → Nat → Prop) (s : State) : ChangesOnly region s s := fun _ _ _ => rfl

/-- An update of anything but the buffers. -/
theorem ChangesOnly.congr (h : ChangesOnly region s t) (hsame : SameBytes t u) : ChangesOnly region s u :=
  fun sp a hout => (hsame sp a).trans (h sp a hout)

/-- A larger region is a weaker bound. -/
theorem ChangesOnly.mono {region' : Space → Nat → Prop} (h : ChangesOnly region s t)
    (hsub : ∀ sp a, region sp a → region' sp a) : ChangesOnly region' s t :=
  fun sp a hout => h sp a fun hin => hout (hsub sp a hin)

/-- A write inside the region. -/
theorem ChangesOnly.memWrite (h : ChangesOnly region s t) {sp : Space} {a : Nat} {bs : List Byte}
    (hin : ∀ a', a ≤ a' → a' < a + bs.length → region sp a') : ChangesOnly region s (memWrite t sp a bs) := by
  intro sp' a' hout
  rw [readByte_memWrite_outside, h sp' a' hout]
  rintro ⟨rfl, hlo, hhi⟩
  exact hout (hin a' hlo hhi)

end

/-- What a command's pseudocode ends with, error entry and hanging keep, and an ignored command has from the start. -/
theorem runCommand_keeps {P : State → Prop} {op : Byte} {body : State → Result Unit} {s t : State}
    (hx : runCommand op body s = .next t) (h : P s) (hb : (body s).Ends P)
    (herr : ∀ u e, P u → P (errorState op (errorCode e) u)) (hhung : ∀ u w, P u → P { u with hung := some w }) :
    P t := by
  cases hs : s.regs.status.err
  · rw [runCommand_ready hs] at hx
    cases hx
    exact settle_of_ends hb (fun _ hu => hu) (fun u e hu _ => herr u e hu) hhung
  · rw [runCommand_sticky hs] at hx
    cases hx
    exact h

end Sys2Proof.Machine
end

section
/-! PROOFS. The commands that store to no buffer: NOP, CONFIGURE, the CRC commands, CHUNK_HDR, CHUNK_SKIP, CHUNK_EMIT
and IDAT_EMIT (20_memory.md R61). -/

set_option autoImplicit false

namespace Sys2Proof.Machine

/-- The state with everything these commands may change at its value after power-on: the registers, FR_ZST, the
session, the run and hang flags, the streams and the deflater. -/
def frameView (s : State) : State :=
  { State.reset with
    slb := s.slb, pix := s.pix, csb := s.csb, params := s.params, host := s.host, reply := s.reply
    inflater := s.inflater, powerCycles := s.powerCycles }

/-- The buffers, the parameters, the host's accesses, the reply, the inflater and the power-on count are those of `s`. -/
def SameFrame (s t : State) : Prop := frameView t = frameView s

section
variable {s t u : State}

/-- An update of what is outside the frame. -/
theorem SameFrame.congr (h : SameFrame s t) (hv : frameView u = frameView t) : SameFrame s u := hv.trans h

theorem SameFrame.sameBytes (h : SameFrame s t) : SameBytes s t :=
  fun sp a => (congrArg (readByte · sp a) (show frameView t = frameView s from h) :)

theorem streamRead_sameFrame (h : SameFrame s u) (n : Nat) : (streamRead n u).Ends (SameFrame s) :=
  ends_streamRead h fun _ _ _ => h.congr rfl

theorem emitChunk_sameFrame (h : SameFrame s u) (ty : Word) (p : List Byte) : (emitChunk ty p u).Ends (SameFrame s) :=
  ends_streamWrite (h.congr rfl) fun _ => h.congr rfl

theorem configure_sameFrame (s : State) : (configure s).Ends (SameFrame s) := by
  unfold configure
  split
  · rename_i e he
    exact ⟨rfl, configureError_raised he⟩
  · exact ends_require_andThen rfl fun _ => rfl

theorem readHeader_sameFrame (s : State) : (readHeader s).Ends (SameFrame s) :=
  ends_andThen (streamRead_sameFrame rfl 8) fun _ _ _ hu => ends_require_andThen hu fun _ => hu.congr rfl

theorem chunkSkip_sameFrame (s : State) : (chunkSkip s).Ends (SameFrame s) :=
  ends_andThen (streamRead_sameFrame rfl _) fun _ _ _ hu => ends_require hu

theorem chunkEmit_sameFrame (s : State) : (chunkEmit s).Ends (SameFrame s) :=
  ends_require_andThen rfl fun _ => emitChunk_sameFrame rfl _ _

theorem idatEmit_sameFrame (s : State) : (idatEmit s).Ends (SameFrame s) :=
  ends_require_andThen rfl fun _ => ends_require_andThen rfl fun _ => emitChunk_sameFrame rfl _ _

theorem runCommand_sameFrame {op : Byte} {body : State → Result Unit} (hx : runCommand op body s = .next t)
    (hb : (body s).Ends (SameFrame s)) : SameFrame s t :=
  runCommand_keeps hx rfl hb (fun _ _ hu => hu.congr rfl) fun _ _ hu => hu.congr rfl

end

/-- The commands that store to no buffer. -/
def storeNothing : List Instr :=
  [.nop, .configure, .crcInit, .crcType, .crcCsb, .crcCheck, .chunkHdr, .chunkSkip, .chunkEmit, .idatEmit]

/-- Each command that stores nothing keeps the frame, whatever way it ends. -/
theorem exec_sameFrame {i : Instr} {s t : State} (hi : i ∈ storeNothing) (hx : exec i s = .next t) : SameFrame s t := by
  simp only [storeNothing, List.mem_cons, List.not_mem_nil, or_false] at hi
  rcases hi with rfl | rfl | rfl | rfl | rfl | rfl | rfl | rfl | rfl | rfl
  · exact runCommand_sameFrame hx rfl
  · exact runCommand_sameFrame hx (configure_sameFrame s)
  · unfold exec execCrcInit at hx
    exact runCommand_sameFrame hx rfl
  · unfold exec execCrcType at hx
    exact runCommand_sameFrame hx rfl
  · exact runCommand_sameFrame hx (ends_require_andThen rfl fun _ => rfl)
  · exact runCommand_sameFrame hx (ends_require rfl)
  · exact runCommand_sameFrame hx (readHeader_sameFrame s)
  · exact runCommand_sameFrame hx (chunkSkip_sameFrame s)
  · exact runCommand_sameFrame hx (chunkEmit_sameFrame s)
  · exact runCommand_sameFrame hx (idatEmit_sameFrame s)

/-- Settles O49: each part of the frame is a part of the view that these commands keep. -/
theorem commandsThatStoreNothing : Obligations.CommandsThatStoreNothing := by
  intro i s t hi hx
  have hframe := exec_sameFrame hi hx
  have kept {α : Type} (part : State → α) : part (frameView t) = part (frameView s) := congrArg part hframe
  exact ⟨hframe.sameBytes, kept State.params, kept State.host, kept State.reply, kept State.inflater,
    kept State.powerCycles⟩

end Sys2Proof.Machine
end

section
/-! PROOFS. One turn of an IDAT run stores in CSB below CHUNK_LEN and in SLB from FR_OUT up to SLB_SIZE, and nowhere
else (20_memory.md R62 to R64, 42_framer.md R170). -/

set_option autoImplicit false

namespace Sys2Proof.Machine

/-! ## The chunk body -/

/-- A property that the stored payload has and that stream reads and loaded CRCs keep, readBody ends with. -/
theorem readBody_keeps {P : State → Prop} {s : State} (ty : Word) (h : P s)
    (hkept : ∀ p src, p.length ≤ s.regs.chunkLen.toNat → P (bodyKept s p src))
    (hreceived : ∀ u src n, P u → P (received u src n)) (hloaded : ∀ u e acc, P u → P (loadCrcs e acc u)) :
    (readBody ty s).Ends P := by
  rcases readBody_cases ty s with ⟨-, he⟩ | ⟨-, ⟨-, he⟩ | ⟨p, src, hd, ⟨-, he⟩ | ⟨-, he⟩⟩⟩ <;> rw [he]
  · exact ⟨h, by decide⟩
  · exact h
  · exact ⟨hkept p src (delivers_length hd), by decide⟩
  · have hbody := hkept p src (delivers_length hd)
    exact ends_andThen (ends_streamRead hbody fun _ _ _ => hreceived _ _ _ hbody) fun _ _ _ hu =>
      ends_require_andThen hu fun _ => ends_require_andThen (hloaded _ _ _ hu) fun _ => hloaded _ _ _ hu

/-- The payload is stored in CSB below CHUNK_LEN (42_framer.md R164). -/
theorem bodyKept_changesOnly {region : Space → Nat → Prop} {s : State} {p : List Byte} (src : Source)
    (hregion : ∀ a, a < s.regs.chunkLen.toNat → region .csb a) (hp : p.length ≤ s.regs.chunkLen.toNat) :
    ChangesOnly region s (bodyKept s p src) := by
  have hreceived : ChangesOnly region s (received s src p.length) := .congr (.refl region s) fun _ _ => rfl
  exact hreceived.memWrite fun a _ ha => hregion a (by omega)

/-! ## A turn -/

/-- Where a turn of a run may store. -/
def turnRegion (r : Regs) : Space → Nat → Prop
  | .slb, a => r.frOut.toNat ≤ a ∧ a < r.slbSize.toNat
  | .pix, _ => False
  | .csb, a => a < r.chunkLen.toNat

/-- What holds wherever a turn begun in `s` has got to: it has stored in its region only, SLB_SIZE is as it was, and
FR_OUT lies between its first value and SLB_SIZE. -/
structure WithinTurn (s u : State) : Prop where
  stores : ChangesOnly (turnRegion s.regs) s u
  slbSize : u.regs.slbSize = s.regs.slbSize
  frOutGe : s.regs.frOut.toNat ≤ u.regs.frOut.toNat
  frOutLe : u.regs.frOut.toNat ≤ s.regs.slbSize.toNat

section
variable {s t u : State}

theorem WithinTurn.refl (h : s.regs.frOut.toNat ≤ s.regs.slbSize.toNat) : WithinTurn s s :=
  ⟨.refl _ s, rfl, le_rfl, h⟩

/-- An update of anything but the buffers, SLB_SIZE and FR_OUT. -/
theorem WithinTurn.congr (h : WithinTurn s t) (hsame : SameBytes t u) (hsize : u.regs.slbSize = t.regs.slbSize)
    (hout : u.regs.frOut = t.regs.frOut) : WithinTurn s u where
  stores := h.stores.congr hsame
  slbSize := hsize.trans h.slbSize
  frOutGe := hout ▸ h.frOutGe
  frOutLe := hout ▸ h.frOutLe

/-- Output that fits the room SLB_SIZE − FR_OUT is stored from FR_OUT up to SLB_SIZE (R170). -/
theorem WithinTurn.bufferOutput (h : WithinTurn s u) {o : List Byte} (ho : o.length ≤ idatRoom u.regs) :
    WithinTurn s (bufferOutput o u) := by
  obtain ⟨hstores, hsize, hge, hle⟩ := h
  rw [idatRoom, hsize] at ho
  have hfrOut : (Machine.bufferOutput o u).regs.frOut.toNat = u.regs.frOut.toNat + o.length := by
    show (u.regs.frOut + BitVec.ofNat 32 o.length).toNat = _
    rw [BitVec.toNat_add, BitVec.toNat_ofNat]
    omega
  have hwritten : ChangesOnly (turnRegion s.regs) s (memWrite u .slb u.regs.frOut.toNat o) :=
    hstores.memWrite fun a hlo hhi => ⟨by omega, by omega⟩
  exact ⟨hwritten.congr fun _ _ => rfl, hsize, by omega, by omega⟩

theorem readBody_withinTurn (h : s.regs.frOut.toNat ≤ s.regs.slbSize.toNat) (ty : Word) :
    (readBody ty s).Ends (WithinTurn s) :=
  readBody_keeps ty (.refl h)
    (fun _ src hp => ⟨bodyKept_changesOnly src (fun _ ha => ha) hp, rfl, le_rfl, h⟩)
    (fun _ _ _ hu => hu.congr (fun _ _ => rfl) rfl rfl) fun _ _ _ hu => hu.congr (fun _ _ => rfl) rfl rfl

theorem feedInflater_withinTurn (h : WithinTurn s u) (p : List Byte) : (feedInflater p u).Ends (WithinTurn s) := by
  have called : WithinTurn s (inflateCalled (inflateAnswer u p (idatRoom u.regs)).status u) :=
    h.congr (fun _ _ => rfl) rfl rfl
  have wrote := called.bufferOutput (inflateAnswer_bounds u p (idatRoom u.regs)).2
  exact ends_require_andThen called fun _ => ends_require_andThen wrote fun _ => wrote.congr (fun _ _ => rfl) rfl rfl

theorem idatNext_withinTurn (h : WithinTurn s u) : (idatNext u).Ends (WithinTurn s) := by
  unfold idatNext
  rcases readHeader_cases u with ⟨-, he⟩ | ⟨hd, src, -, ⟨-, he⟩ | ⟨-, he⟩⟩ <;> rw [he]
  · exact h
  · exact ⟨h.congr (fun _ _ => rfl) rfl rfl, by decide⟩
  · have latched : WithinTurn s (latchHeader hd (received u src hd.length)) := h.congr (fun _ _ => rfl) rfl rfl
    rw [andThen_ok]
    split
    · exact latched
    · exact ends_require_andThen latched fun _ => latched.congr (fun _ _ => rfl) rfl rfl

/-- Entering an error of a run, or hanging, stores nothing. -/
theorem settleRun_withinTurn {r : Result Unit} (h : r.Ends (WithinTurn s)) : WithinTurn s (settleRun r) := by
  cases r with
  | ok _ u => exact h
  | raised e u => exact h.1.congr (fun _ _ => rfl) rfl rfl
  | blocked w u => exact WithinTurn.congr h (fun _ _ => rfl) rfl rfl

theorem idatTurn_withinTurn (h : s.regs.frOut.toNat ≤ s.regs.slbSize.toNat) : WithinTurn s (idatTurn s) :=
  settleRun_withinTurn <|
    ends_andThen (ends_andThen (readBody_withinTurn h idatTag) fun p _ _ hu => feedInflater_withinTurn hu p)
      fun _ _ _ hu => idatNext_withinTurn hu

end

/-- Settles O31: each of the four bounds on the bytes says that an offset is outside the turn's region. -/
theorem idatTurnStaysInTheBuffers : Obligations.IdatTurnStaysInTheBuffers := by
  intro s h
  obtain ⟨hstores, -, -, hle⟩ := idatTurn_withinTurn h
  exact ⟨fun a ha => hstores .slb a fun hin => Nat.not_lt.2 ha hin.2,
    fun a ha => hstores .slb a fun hin => Nat.not_le.2 ha hin.1,
    fun a => hstores .pix a id, fun a ha => hstores .csb a (Nat.not_lt.2 ha), hle⟩

end Sys2Proof.Machine
end

section
/-! PROOFS. No command changes a byte beyond the active part of its buffer: SLB_SIZE, PIX_SIZE, CHUNK_LEN
(20_memory.md R62 to R64). -/

set_option autoImplicit false

namespace Sys2Proof.Machine

/-- The active part of each buffer. -/
def activeRegion (r : Regs) : Space → Nat → Prop
  | .slb, a => a < r.slbSize.toNat
  | .pix, a => a < r.pixSize.toNat
  | .csb, a => a < r.chunkLen.toNat

/-! ## The row commands (43_filter.md, 44_bitdepth.md) -/

/-- Wherever a row command of a configured block has got to: it has stored in the active buffers only, the geometry,
the derived geometry and CFG are as they were, and FE_LEFT names a row. -/
structure RowsWithin (s u : State) : Prop where
  stores : ChangesOnly (activeRegion s.regs) s u
  geometry : HasGeometry s.regs u
  feLeft : u.regs.feLeft.toNat ≤ s.regs.height.toNat

/-- A part of the geometry that a state shares with `g`. -/
theorem HasGeometry.part {α : Type} {g : Regs} {s : State} (h : HasGeometry g s) (part : Regs → α) :
    part (geometryView s.regs) = part (geometryView g) :=
  congrArg part h

/-- A configuration is one also with its counters at 0. -/
theorem Configured.geometryView {r : Regs} {p : Params} (h : Configured r p) : Configured (geometryView r) p :=
  { h with
    ufRow := Nat.zero_le _, upRow := Nat.zero_le _, pkRow := Nat.zero_le _, feLeft := Nat.zero_le _
    frOut := Nat.zero_le _ }

section
variable {s t u : State}

/-- An update of row counters, FE_LEFT downwards. -/
theorem RowsWithin.congr (h : RowsWithin s t) (hsame : SameBytes t u)
    (hgeom : geometryView u.regs = geometryView t.regs) (hfe : u.regs.feLeft.toNat ≤ t.regs.feLeft.toNat) :
    RowsWithin s u :=
  ⟨h.stores.congr hsame, h.geometry.congr hgeom, hfe.trans h.feLeft⟩

variable (hconf : Configured s.regs s.params)
include hconf

theorem RowsWithin.refl : RowsWithin s s := ⟨.refl _ s, rfl, hconf.feLeft⟩

theorem RowsWithin.configured (h : RowsWithin s u) : Configured (geometryView u.regs) s.params := by
  have hgeom : geometryView u.regs = geometryView s.regs := h.geometry
  exact hgeom ▸ hconf.geometryView

/-- A write that ends within a scanline below HEIGHT (R62). -/
theorem RowsWithin.memWrite_slb (h : RowsWithin s u) {i : Nat} (hi : i < u.regs.height.toNat) {a : Nat}
    {bs : List Byte} (ha : a + bs.length ≤ filtAt u.regs i + 1 + u.regs.pitch.toNat) :
    RowsWithin s (memWrite u .slb a bs) := by
  have hrow : filtAt u.regs i + 1 + u.regs.pitch.toNat ≤ u.regs.slbSize.toNat := slb_row_within (h.configured hconf) hi
  have hsize : u.regs.slbSize = s.regs.slbSize := h.geometry.part Regs.slbSize
  rw [hsize] at hrow
  have hend := ha.trans hrow
  exact ⟨h.stores.memWrite fun a' _ ha' => lt_of_lt_of_le ha' hend, h.geometry.congr rfl, h.feLeft⟩

/-- A write that ends within a row of samples below HEIGHT (R63). -/
theorem RowsWithin.memWrite_pix (h : RowsWithin s u) {i : Nat} (hi : i < u.regs.height.toNat) {a : Nat}
    {bs : List Byte} (ha : a + bs.length ≤ pixAt u.regs i 0 + samplesPerRow u.regs) :
    RowsWithin s (memWrite u .pix a bs) := by
  have hrow : pixAt u.regs i 0 + samplesPerRow u.regs ≤ u.regs.pixSize.toNat := pix_row_within (h.configured hconf) hi
  have hsize : u.regs.pixSize = s.regs.pixSize := h.geometry.part Regs.pixSize
  rw [hsize] at hrow
  have hend := ha.trans hrow
  exact ⟨h.stores.memWrite fun a' _ ha' => lt_of_lt_of_le ha' hend, h.geometry.congr rfl, h.feLeft⟩

/-! ### One row -/

theorem unfilterNext_rowsWithin (h : RowsWithin s u) (hrow : u.regs.ufRow.toNat < u.regs.height.toNat) :
    (unfilterNext u).Ends (RowsWithin s) := by
  rcases unfilterNext_cases u with ⟨-, he⟩ | ⟨ft, -, he⟩ <;> rw [he]
  · exact ⟨h, by decide⟩
  · exact (h.memWrite_slb hconf hrow (by simp [dataAt, filtAt])).congr (fun _ _ => rfl) rfl le_rfl

theorem filterNext_rowsWithin (ftByte : Byte) (ft : FilterType) (h : RowsWithin s u) (hrow : 0 < u.regs.feLeft.toNat) :
    (filterNext ftByte ft u).Ends (RowsWithin s) := by
  have hheight : u.regs.height = s.regs.height := h.geometry.part Regs.height
  have hi : u.regs.feLeft.toNat - 1 < u.regs.height.toNat := by
    have hle := h.feLeft
    rw [hheight]
    omega
  rw [filterNext_eq]
  refine (h.memWrite_slb hconf hi ?_).congr (fun _ _ => rfl) rfl ?_
  · simp
    omega
  · rw [setFeLeft_regs, memWrite_regs, BitVec.toNat_ofNat]
    omega

theorem unpackNext_rowsWithin (h : RowsWithin s u) (hrow : u.regs.upRow.toNat < u.regs.height.toNat) :
    (unpackNext u).Ends (RowsWithin s) := by
  have hlen := unpackRow_length (h.configured hconf) (slbRow u u.regs.upRow.toNat) (slbRow_length u _)
  rw [unpackNext_eq]
  exact (h.memWrite_pix hconf hrow (Nat.add_le_add_left hlen.le _)).congr (fun _ _ => rfl) rfl le_rfl

theorem packNext_rowsWithin (h : RowsWithin s u) (hrow : u.regs.pkRow.toNat < u.regs.height.toNat) :
    (packNext u).Ends (RowsWithin s) := by
  have hlen : (packRow u.regs.bitDepth.toNat u.regs.pitch.toNat (samplesPerRow u.regs)
      (pixRow u u.regs.pkRow.toNat)).length = u.regs.pitch.toNat :=
    packRow_length (h.configured hconf) (pixRow u u.regs.pkRow.toNat) (pixRow_length u _)
  rcases packNext_cases u with ⟨-, he⟩ | ⟨-, he⟩ <;> rw [he]
  · exact ⟨h, by decide⟩
  · refine (h.memWrite_slb hconf hrow ?_).congr (fun _ _ => rfl) rfl le_rfl
    rw [List.length_cons, hlen]
    omega

end

/-! ### The rows left -/

section
variable {s u : State}

theorem unfilterNext_uses_one_row (hu : unfilterNext s = .ok () u) :
    s.regs.height.toNat - s.regs.ufRow.toNat ≤ u.regs.height.toNat - u.regs.ufRow.toNat + 1 := by
  rcases unfilterNext_cases s with ⟨-, he⟩ | ⟨ft, -, he⟩ <;> rw [he] at hu <;> cases hu
  simpa using sub_le_sub_succ _ _

theorem filterNext_uses_one_row {ftByte : Byte} {ft : FilterType} (hu : filterNext ftByte ft s = .ok () u) :
    s.regs.feLeft.toNat ≤ u.regs.feLeft.toNat + 1 := by
  rw [filterNext_eq] at hu
  cases hu
  rw [setFeLeft_regs, BitVec.toNat_ofNat]
  omega

theorem unpackNext_uses_one_row (hu : unpackNext s = .ok () u) :
    s.regs.height.toNat - s.regs.upRow.toNat ≤ u.regs.height.toNat - u.regs.upRow.toNat + 1 := by
  rw [unpackNext_eq] at hu
  cases hu
  simpa using sub_le_sub_succ _ _

theorem packNext_uses_one_row (hu : packNext s = .ok () u) :
    s.regs.height.toNat - s.regs.pkRow.toNat ≤ u.regs.height.toNat - u.regs.pkRow.toNat + 1 := by
  rcases packNext_cases s with ⟨-, he⟩ | ⟨-, he⟩ <;> rw [he] at hu <;> cases hu
  simpa using sub_le_sub_succ _ _

end

/-! ### The commands -/

/-- The pseudocode ends with every store in the active buffers of the state it began in. -/
def StaysActive (s : State) (r : Result Unit) : Prop := r.Ends (ChangesOnly (activeRegion s.regs) s)

section
variable {s : State} (hinv : s.Inv)
include hinv

/-- A row command: CFG, a row left, the row. -/
theorem rowCommand_staysActive {left : State → Bool} {body : State → Result Unit}
    (hb : Configured s.regs s.params → RowsWithin s s → left s = true → (body s).Ends (RowsWithin s)) :
    StaysActive s ((require s.regs.status.cfg .sequenceError s).andThen fun _ s =>
      (require (left s) .sequenceError s).andThen fun _ s => body s) :=
  ends_require_andThen (.refl _ s) fun hcfg => ends_require_andThen (.refl _ s) fun hleft =>
    have hconf := hinv.configured hcfg
    ends_mono (hb hconf (.refl hconf) hleft) fun _ hu => hu.stores

/-- A command over all the rows left: CFG, then the loop. -/
theorem allRowsCommand_staysActive {left : State → Nat} {body : State → Result Unit}
    (hb : Configured s.regs s.params → ∀ u, RowsWithin s u → 0 < left u → (body u).Ends (RowsWithin s))
    (hleft : ∀ u v, body u = .ok () v → left u ≤ left v + 1) :
    StaysActive s ((require s.regs.status.cfg .sequenceError s).andThen fun _ s => repeatRows body (left s) s) :=
  ends_require_andThen (.refl _ s) fun hcfg =>
    have hconf := hinv.configured hcfg
    ends_mono (ends_repeatRows_left (hb hconf) hleft _ s (.refl hconf) le_rfl) fun _ hu => hu.stores

theorem unfilterOne_staysActive : StaysActive s (unfilterOne s) :=
  rowCommand_staysActive hinv fun hconf h hrow => unfilterNext_rowsWithin hconf h (of_decide_eq_true hrow)

theorem unfilterAll_staysActive : StaysActive s (unfilterAll s) :=
  allRowsCommand_staysActive hinv (left := fun u => u.regs.height.toNat - u.regs.ufRow.toNat)
    (fun hconf _ h hrow => unfilterNext_rowsWithin hconf h (Nat.lt_of_sub_pos hrow)) fun _ _ => unfilterNext_uses_one_row

theorem unpackOne_staysActive : StaysActive s (unpackOne s) :=
  rowCommand_staysActive hinv fun hconf h hrow => unpackNext_rowsWithin hconf h (of_decide_eq_true hrow)

theorem unpackAll_staysActive : StaysActive s (unpackAll s) :=
  allRowsCommand_staysActive hinv (left := fun u => u.regs.height.toNat - u.regs.upRow.toNat)
    (fun hconf _ h hrow => unpackNext_rowsWithin hconf h (Nat.lt_of_sub_pos hrow)) fun _ _ => unpackNext_uses_one_row

theorem packOne_staysActive : StaysActive s (packOne s) :=
  rowCommand_staysActive hinv fun hconf h hrow => packNext_rowsWithin hconf h (of_decide_eq_true hrow)

theorem packAll_staysActive : StaysActive s (packAll s) :=
  allRowsCommand_staysActive hinv (left := fun u => u.regs.height.toNat - u.regs.pkRow.toNat)
    (fun hconf _ h hrow => packNext_rowsWithin hconf h (Nat.lt_of_sub_pos hrow)) fun _ _ => packNext_uses_one_row

theorem filterOne_staysActive (ftByte : Byte) (ft : FilterType) : StaysActive s (filterOne ftByte ft s) :=
  rowCommand_staysActive hinv fun hconf h hrow => filterNext_rowsWithin hconf ftByte ft h (of_decide_eq_true hrow)

theorem filterAll_staysActive (ftByte : Byte) (ft : FilterType) : StaysActive s (filterAll ftByte ft s) :=
  allRowsCommand_staysActive hinv (left := fun u => u.regs.feLeft.toNat)
    (fun hconf _ h hrow => filterNext_rowsWithin hconf ftByte ft h hrow) fun _ _ => filterNext_uses_one_row

end

/-- A FILTER command, whose operand may name no filter. -/
theorem withFilterType_staysActive {s : State} (ftByte : Byte) {body : FilterType → State → Result Unit}
    (hb : ∀ ft, StaysActive s (body ft s)) : StaysActive s (withFilterType ftByte body s) := by
  unfold withFilterType
  split
  · exact ⟨.refl _ s, by decide⟩
  · exact hb _

/-! ## CHUNK_READ and IDAT_RUN (42_framer.md) -/

theorem readBody_staysActive (s : State) (ty : Word) :
    StaysActive s ((readBody ty s).andThen fun _ u => .ok () u) :=
  ends_andThen
    (readBody_keeps ty (.refl _ s) (fun _ src hp => bodyKept_changesOnly src (fun _ ha => ha) hp)
      (fun _ _ _ hu => hu.congr fun _ _ => rfl) fun _ _ _ hu => hu.congr fun _ _ => rfl)
    fun _ _ _ hu => hu

/-- The preconditions of a run fail with nothing changed, or the run begins (R169). -/
theorem idatStart_cases (s : State) : (∃ e, idatStart s = .raised e s) ∨ idatStart s = .ok () (beginRun s) := by
  unfold idatStart
  simp only [require_andThen]
  repeat' split
  · exact .inr rfl
  all_goals exact .inl ⟨_, rfl⟩

/-- A run begins with FR_OUT = 0, so that its first turn stores in the active buffers only. -/
theorem idatRun_changesOnly (s : State) : ChangesOnly (activeRegion s.regs) s (idatRun s) := by
  unfold idatRun
  rcases idatStart_cases s with ⟨e, he⟩ | he <;> rw [he]
  · exact .congr (.refl _ s) fun _ _ => rfl
  · have hturn := (idatTurn_withinTurn (s := beginRun s) (Nat.zero_le _)).stores
    -- The bytes, SLB_SIZE and CHUNK_LEN of `beginRun s` are those of `s`.
    refine hturn.mono (s := beginRun s) fun sp a hin => ?_
    cases sp
    · exact hin.2
    · exact hin.elim
    · exact hin

/-! ## Every command -/

theorem runCommand_staysActive {op : Byte} {body : State → Result Unit} {s t : State}
    (hx : runCommand op body s = .next t) (hb : StaysActive s (body s)) : ChangesOnly (activeRegion s.regs) s t :=
  runCommand_keeps hx (.refl _ s) hb (fun _ _ hu => hu.congr fun _ _ => rfl) fun _ _ hu => hu.congr fun _ _ => rfl

/-- Every command stores in the active buffers only. -/
theorem exec_changesOnly {i : Instr} {s t : State} (hinv : s.Inv) (hx : exec i s = .next t) :
    ChangesOnly (activeRegion s.regs) s t := by
  have nothing (hi : i ∈ storeNothing) : ChangesOnly (activeRegion s.regs) s t :=
    .congr (.refl _ s) (exec_sameFrame hi hx).sameBytes
  cases i with
  | nop | configure | crcInit | crcType | crcCsb | crcCheck | chunkHdr | chunkSkip | chunkEmit | idatEmit =>
    exact nothing (by decide)
  | reset _ => cases hx; exact .congr (.refl _ s) fun _ _ => rfl
  | chunkRead =>
    unfold exec execChunkRead at hx
    exact runCommand_staysActive hx (readBody_staysActive s _)
  | idatRun =>
    cases hx
    split
    · exact .refl _ s
    · exact idatRun_changesOnly s
  | unfilterRow => exact runCommand_staysActive hx (unfilterOne_staysActive hinv)
  | unfilterAll => exact runCommand_staysActive hx (unfilterAll_staysActive hinv)
  | filterRow ft =>
    exact runCommand_staysActive hx (withFilterType_staysActive ft fun f => filterOne_staysActive hinv ft f)
  | filterAll ft =>
    exact runCommand_staysActive hx (withFilterType_staysActive ft fun f => filterAll_staysActive hinv ft f)
  | unpackRow => exact runCommand_staysActive hx (unpackOne_staysActive hinv)
  | unpackAll => exact runCommand_staysActive hx (unpackAll_staysActive hinv)
  | packRow => exact runCommand_staysActive hx (packOne_staysActive hinv)
  | packAll => exact runCommand_staysActive hx (packAll_staysActive hinv)

/-- Settles O51: an offset at or above the active part of its buffer is outside the region every command keeps to. -/
theorem commandsStayInTheActiveBuffers : Obligations.CommandsStayInTheActiveBuffers := by
  intro i s t hinv hx
  have hstores := exec_changesOnly hinv hx
  exact ⟨fun a ha => hstores .slb a (Nat.not_lt.2 ha), fun a ha => hstores .pix a (Nat.not_lt.2 ha),
    fun a ha => hstores .csb a (Nat.not_lt.2 ha)⟩

end Sys2Proof.Machine
end

section
/-! PROOFS. The command encoding (30_encoding.md R91 to R96, R104). A word is its fields OP, ARG and RSV; the opcode map
and the ARG check are related to the encoder once, and the laws of `decode` follow from that. -/

set_option autoImplicit false

namespace Sys2Proof.Machine

/-! ## The fields of a word (R91) -/

theorem opField_append (op : Byte) (rest : BitVec 24) : opField (op ++ rest) = op :=
  BitVec.extractLsb'_append_eq_left

theorem argField_append (op arg : Byte) (rsv : BitVec 16) : argField (op ++ (arg ++ rsv)) = arg := by
  rw [argField, BitVec.extractLsb'_append_eq_of_add_le (by decide), BitVec.extractLsb'_append_eq_left]

theorem rsvField_append (op arg : Byte) (rsv : BitVec 16) : rsvField (op ++ (arg ++ rsv)) = rsv := by
  rw [rsvField, BitVec.extractLsb'_append_eq_of_add_le (by decide), BitVec.extractLsb'_append_eq_right]

/-- OP is what stands above the 24 operand bits. -/
theorem opField_append_operand (w : Word) : opField w ++ w.extractLsb' 0 24 = w :=
  BitVec.extractLsb'_append_extractLsb' (w := 8) (len := 24)

/-- The operand bits are ARG and RSV. -/
theorem argField_append_rsvField (w : Word) : argField w ++ rsvField w = w.extractLsb' 0 24 :=
  BitVec.extractLsb'_append_extractLsb'_eq_extractLsb' rfl

theorem opField_toNat (w : Word) : (opField w).toNat = w.toNat / 2 ^ 24 := by
  rw [opField, extractByte_toNat]
  omega

theorem argField_toNat (w : Word) : (argField w).toNat = w.toNat / 2 ^ 16 % 256 := extractByte_toNat w 16

theorem rsvField_toNat (w : Word) : (rsvField w).toNat = w.toNat % 2 ^ 16 := by
  rw [rsvField, BitVec.extractLsb'_toNat, Nat.shiftRight_zero]

/-! ## The opcode map against the encoder (R92, R93) -/

/-- The map names every command but RESET. -/
theorem opcode_ne_of_commandOf {op arg : Byte} {i : Instr} (h : commandOf op arg = some i) : op ≠ 0x01#8 := by
  rintro rfl
  cases h

/-- A command other than RESET is ARG above a zero RSV, and the map and the ARG check read its opcode and that ARG
back. -/
theorem commandOf_opcode {i : Instr} (hreset : ∀ b, i ≠ .reset b) : ∃ arg : Byte,
    i.operandBits = arg ++ 0#16 ∧ commandOf i.opcode arg = some i ∧ argLegal i.opcode arg = i.wellFormed := by
  cases i with
  | reset b => exact absurd rfl (hreset b)
  | filterRow ft => exact ⟨ft, rfl, rfl, rfl⟩
  | filterAll ft => exact ⟨ft, rfl, rfl, rfl⟩
  | _ => exact ⟨0#8, rfl, rfl, rfl⟩

/-- The map gives a command with the opcode it was given. -/
theorem opcode_of_commandOf {op arg : Byte} {i : Instr} (h : commandOf op arg = some i) : i.opcode = op := by
  apply BitVec.eq_of_toNat_eq
  unfold commandOf at h
  split at h <;> cases h <;> exact Eq.symm ‹_›

/-- With a legal ARG the command is well-formed and its operand bits are that ARG above a zero RSV. -/
theorem operand_of_commandOf {op arg : Byte} {i : Instr} (h : commandOf op arg = some i)
    (hlegal : argLegal op arg = true) : i.WellFormed ∧ i.operandBits = arg ++ 0#16 := by
  obtain rfl := opcode_of_commandOf h
  cases i with
  | reset b => cases h
  | filterRow ft => cases h; exact ⟨hlegal, rfl⟩
  | filterAll ft => cases h; exact ⟨hlegal, rfl⟩
  | _ => obtain rfl : arg = 0#8 := of_decide_eq_true hlegal; exact ⟨rfl, rfl⟩

/-- The opcodes of the map, RESET aside; every other value is reserved (R95). -/
theorem commandOf_eq_none_iff (op arg : Byte) : commandOf op arg = none ↔
    op.toNat ∉ [0x00, 0x02, 0x10, 0x11, 0x12, 0x13, 0x20, 0x21, 0x22, 0x23, 0x24, 0x25, 0x30, 0x31, 0x32, 0x33,
      0x40, 0x41, 0x42, 0x43] := by
  unfold commandOf
  split <;> simp_all

/-- The ARG check fails on a filter type above 4, or on a nonzero ARG of a command without operand (R93). -/
theorem argLegal_eq_false_iff (op arg : Byte) : argLegal op arg = false ↔
    ((op.toNat = 0x32 ∨ op.toNat = 0x33) ∧ 5 ≤ arg.toNat) ∨
      (op.toNat ≠ 0x32 ∧ op.toNat ≠ 0x33 ∧ arg.toNat ≠ 0) := by
  simp only [argLegal, ← BitVec.toNat_inj, BitVec.toNat_ofNat]
  split <;> simp <;> omega

/-! ## What decode answers (R104) -/

/-- RESET decodes from OP alone (R96). -/
theorem decode_of_reset {w : Word} (h : opField w = 0x01#8) : decode w = .ok (.reset (w.extractLsb' 0 24)) :=
  if_pos h

theorem decode_eq_ok_iff {w : Word} (h : opField w ≠ 0x01#8) (i : Instr) : decode w = .ok i ↔
    commandOf (opField w) (argField w) = some i ∧ argLegal (opField w) (argField w) = true ∧ rsvField w = 0#16 := by
  rw [decode, if_neg h]
  cases commandOf (opField w) (argField w) with
  | none => simp
  | some j => cases argLegal (opField w) (argField w) <;> simp [ite_eq_iff, and_comm]

theorem decode_eq_error_iff (w : Word) : (∃ e, decode w = .error e) ↔ opField w ≠ 0x01#8 ∧
    (commandOf (opField w) (argField w) = none ∨ argLegal (opField w) (argField w) = false ∨ rsvField w ≠ 0#16) := by
  by_cases h : opField w = 0x01#8
  · simp [decode_of_reset h, h]
  · rw [decode, if_neg h]
    cases commandOf (opField w) (argField w) with
    | none => simp [h]
    | some j => cases argLegal (opField w) (argField w) <;> simp [h, ite_eq_iff]

/-! ## The obligations -/

/-- Settles O1: the fields of the encoded word are the command's opcode and operand bits, which the map reads back. -/
theorem decodeUndoesEncode : Obligations.DecodeUndoesEncode := by
  intro i hwf
  have hop : opField (encode i) = i.opcode := opField_append _ _
  by_cases hreset : ∃ b, i = .reset b
  · obtain ⟨b, rfl⟩ := hreset
    have hbits : (encode (.reset b)).extractLsb' 0 24 = b := BitVec.extractLsb'_append_eq_right
    rw [decode_of_reset hop, hbits]
  · obtain ⟨arg, hbits, hcmd, hlegal⟩ := commandOf_opcode (not_exists.1 hreset)
    have harg : argField (encode i) = arg := by rw [encode, hbits, argField_append]
    have hrsv : rsvField (encode i) = 0#16 := by rw [encode, hbits, rsvField_append]
    rw [decode_eq_ok_iff (hop ▸ opcode_ne_of_commandOf hcmd), hop, harg]
    exact ⟨hcmd, hlegal.trans hwf, hrsv⟩

/-- Settles O2: the accepted command has the word's own OP and, as ARG and RSV passed their checks, its other bits. -/
theorem encodeUndoesDecode : Obligations.EncodeUndoesDecode := by
  intro w i hd
  by_cases hop : opField w = 0x01#8
  · obtain rfl : Instr.reset (w.extractLsb' 0 24) = i := Except.ok.inj ((decode_of_reset hop).symm.trans hd)
    refine ⟨rfl, ?_⟩
    calc encode (.reset (w.extractLsb' 0 24))
      _ = opField w ++ w.extractLsb' 0 24 := by rw [hop]; rfl
      _ = w := opField_append_operand w
  · obtain ⟨hcmd, hlegal, hrsv⟩ := (decode_eq_ok_iff hop i).1 hd
    obtain ⟨hwf, hbits⟩ := operand_of_commandOf hcmd hlegal
    refine ⟨hwf, ?_⟩
    rw [encode, opcode_of_commandOf hcmd, hbits, ← hrsv, argField_append_rsvField]
    exact opField_append_operand w

/-- The illegal words are the words decode refuses. -/
theorem decode_eq_error_iff_illegalWord (w : Word) : (∃ e, decode w = .error e) ↔ IllegalWord w := by
  rw [decode_eq_error_iff, commandOf_eq_none_iff, argLegal_eq_false_iff, or_assoc]
  simp only [ne_eq, ← BitVec.toNat_inj (x := opField w), ← BitVec.toNat_inj (x := rsvField w), opField_toNat,
    argField_toNat, rsvField_toNat]
  rfl

/-- Settles O4: the decoder's checks on the three fields are the rules R93 to R95 on the word's digits. -/
theorem illegalWordsAreRefused : Obligations.IllegalWordsAreRefused :=
  ⟨decode_eq_error_iff_illegalWord, fun w h =>
    decode_of_reset (BitVec.eq_of_toNat_eq ((opField_toNat w).trans h))⟩

/-- Settles O3: each of the words is the encoding of its command. -/
theorem opcodeMapWords : Obligations.OpcodeMapWords :=
  have h := decodeUndoesEncode
  ⟨h .nop rfl, h (.reset 0#24) rfl, h .configure rfl, h .crcInit rfl, h .crcType rfl, h .crcCsb rfl, h .crcCheck rfl,
    h .chunkHdr rfl, h .chunkRead rfl, h .chunkSkip rfl, h .chunkEmit rfl, h .idatRun rfl, h .idatEmit rfl,
    h .unfilterRow rfl, h .unfilterAll rfl, h (.filterRow 1#8) rfl, h (.filterAll 4#8) rfl, h .unpackRow rfl,
    h .unpackAll rfl, h .packRow rfl, h .packAll rfl⟩

/-- A word that decodes to nothing raises IllegalCommand with its own OP, under the sticky-error rule (R95, R104). -/
theorem issueCommand_of_error {w : Word} {e : DecodeError} (h : decode w = .error e) (s : State) :
    issueCommand w s = runCommand (opField w) (Result.raised .illegalCommand) s := by
  rw [issueCommand, h]

/-- Settles O5: the write issues the word, which decodes to nothing. -/
theorem illegalWordRaisesIllegalCommand : Obligations.IllegalWordRaisesIllegalCommand := by
  intro s w hw
  obtain ⟨e, he⟩ := (decode_eq_error_iff_illegalWord w).2 hw
  rw [hostWrite_cmd, issueCommand_of_error he]
  split
  case isTrue herr => exact runCommand_sticky herr _ _
  case isFalse herr => exact runCommand_ready (Bool.eq_false_of_not_eq_true herr) _ _

end Sys2Proof.Machine
end

section
/-! PROOFS. The control commands NOP and CONFIGURE (40_control.md). CONFIGURE's checks are related once to the two kinds
of refused descriptor, corrupt and unsupported; its end is then one of four: the three errors in their order, or the
configuration committed. -/

set_option autoImplicit false

namespace Sys2Proof.Machine

/-- Settles O9: NOP's body answers its state, and while an error is pending no command runs. -/
theorem nopChangesNothing : Obligations.NopChangesNothing := by
  refine ⟨rfl, fun s => ?_⟩
  cases herr : s.regs.status.err
  case true => exact runCommand_sticky herr _ _
  case false => exact runCommand_ready herr _ _

/-! ## CONFIGURE's checks (R123, R124) -/

theorem channelsOf_eq_none_iff (ct : Byte) : channelsOf ct = none ↔ ct.toNat ∉ [0, 2, 3, 4, 6] := by
  unfold channelsOf
  split <;> simp_all

/-- N of a known colour type (R123). -/
theorem geomChannels_of_known {r : Regs} (h : r.colorType.toNat ∈ [0, 2, 3, 4, 6]) :
    geomChannels r = if r.colorType.toNat = 2 then 3 else if r.colorType.toNat = 4 then 2
      else if r.colorType.toNat = 6 then 4 else 1 := by
  simp only [List.mem_cons, List.not_mem_nil, or_false] at h
  rcases h with h | h | h | h | h <;> simp [geomChannels, channelsOf, h]

/-- The checks in their order are two: is the descriptor corrupt, and if not, is it unsupported (R124). -/
theorem configureError_eq (r : Regs) [Decidable (CorruptDescriptor r)] [Decidable (UnsupportedDescriptor r)] :
    configureError r = if CorruptDescriptor r then some .corruptedError
      else if UnsupportedDescriptor r then some .notSupportedError else none := by
  unfold configureError
  simp only [← ite_or]
  refine if_congr ?_ rfl (if_congr ?_ rfl rfl)
  · simp only [CorruptDescriptor, channelsOf_eq_none_iff, List.mem_cons, List.not_mem_nil, or_false, ne_eq,
      ← BitVec.toNat_inj, BitVec.toNat_ofNat]
    omega
  · rw [UnsupportedDescriptor, ← BitVec.toNat_inj, ← BitVec.toNat_inj]
    rfl

/-- The descriptors CONFIGURE accepts (R124). -/
theorem configureError_of_supported {r : Regs} (hc : ¬ CorruptDescriptor r) (hu : ¬ UnsupportedDescriptor r) :
    configureError r = none := by
  classical
  rw [configureError_eq, if_neg hc, if_neg hu]

/-! ## How CONFIGURE ends (R124 to R127) -/

theorem exec_configure_ready {s : State} (h : s.regs.status.err = false) :
    exec .configure s = .next (settle 0x02#8 (configure s)) :=
  runCommand_ready h _ _

theorem configure_of_error {s : State} {e : ErrKind} (h : configureError s.regs = some e) :
    configure s = .raised e s := by
  rw [configure, h]

theorem configure_of_accepted {s : State} (h : configureError s.regs = none) :
    configure s = if geomSlb s.regs ≤ s.params.slbCap ∧ geomPix s.regs ≤ s.params.pixCap
      then .ok () (commitConfiguration s) else .raised .memoryError s := by
  rw [configure, h]
  simp [require_andThen]

/-- Settles O12: each of the three errors is the one CONFIGURE's body raises, in the state it was given. -/
theorem configureRejects : Obligations.ConfigureRejects := by
  classical
  intro s herr
  rw [exec_configure_ready herr]
  refine ⟨fun hc => ?_, fun hc hu => ?_, fun hc hu hlarge => ?_⟩
  · rw [configure_of_error (by rw [configureError_eq, if_pos hc])]
    rfl
  · rw [configure_of_error (by rw [configureError_eq, if_neg hc, if_pos hu])]
    rfl
  · rw [configure_of_accepted (configureError_of_supported hc hu), if_neg (by omega)]
    rfl

/-- Settles O13: the state reached is the committed one, and the invariant's reading of its registers, `Configured`,
says that none of the derived geometry is cut. -/
theorem configureDerivesAndCommits : Obligations.ConfigureDerivesAndCommits := by
  intro s herr hp hc hu hslb hpix
  have hacc := configureError_of_supported hc hu
  have hct : s.regs.colorType.toNat ∈ [0, 2, 3, 4, 6] := not_not.1 fun h => hc (.inl h)
  have hconf := configureCommit_configured hp hacc hslb hpix
  refine ⟨commitConfiguration s, ?_, ?_, rfl⟩
  · rw [exec_configure_ready herr, configure_of_accepted hacc, if_pos ⟨hslb, hpix⟩]
    rfl
  · dsimp only
    rw [← geomChannels_of_known hct]
    refine ⟨hconf.channels, hconf.stride, hconf.pitch, ?_, hconf.pixSize⟩
    rw [commitConfiguration_regs, hconf.pitch]
    exact hconf.slbSize

end Sys2Proof.Machine
end

section
/-! PROOFS. The CRC-32 function and its four commands (41_crc.md). A step of the CRC loses nothing: the bit it shifts
out comes back as the top bit, for the polynomial's top bit is 1. So the fold is one to one in the accumulator, a step
is one to one in its byte, and a change of one byte of a sequence always reaches the fold's end (R146). -/

set_option autoImplicit false

namespace Sys2Proof.Machine

/-! ## A step is one to one in the accumulator and in the byte (R140) -/

/-- The bit shifted out is the top bit of the result. -/
theorem crcShift_getLsbD_31 (c : Word) : (crcShift c).getLsbD 31 = c.getLsbD 0 := by
  unfold crcShift
  cases h : c.getLsbD 0 <;> simp

/-- A word is its bit 0 and the 31 bits above it. -/
theorem eq_of_ushiftRight_one_eq {c d : Word} (hlow : c.getLsbD 0 = d.getLsbD 0) (hhigh : c >>> 1 = d >>> 1) :
    c = d := by
  refine BitVec.eq_of_getLsbD_eq fun i _ => ?_
  cases i with
  | zero => exact hlow
  | succ i => simpa [Nat.add_comm] using congrArg (·.getLsbD i) hhigh

theorem crcShift_injective : Function.Injective crcShift := by
  intro c d h
  have hlow : c.getLsbD 0 = d.getLsbD 0 := by rw [← crcShift_getLsbD_31, h, crcShift_getLsbD_31]
  refine eq_of_ushiftRight_one_eq hlow ?_
  rw [crcShift, crcShift, hlow] at h
  split at h
  · exact (BitVec.xor_left_inj _).1 h
  · exact h

theorem crcShifts_injective (n : Nat) : Function.Injective (crcShifts n) := by
  induction n with
  | zero => exact Function.injective_id
  | succ n ih => exact ih.comp crcShift_injective

theorem crcStep_left_injective (v : Byte) : Function.Injective (crcStep · v) :=
  fun _ _ h => (BitVec.xor_left_inj _).1 (crcShifts_injective 8 h)

theorem crcStep_right_injective (c : Word) : Function.Injective (crcStep c) := by
  intro v w h
  have hwide : v.setWidth 32 = w.setWidth 32 := (BitVec.xor_right_inj _).1 (crcShifts_injective 8 h)
  simpa using congrArg (BitVec.setWidth 8) hwide

/-! ## The fold (R141) -/

theorem crcFold_append (c : Word) (s s' : List Byte) : crcFold c (s ++ s') = crcFold (crcFold c s) s' :=
  List.foldl_append

theorem crcFold_injective (s : List Byte) : Function.Injective (crcFold · s) := by
  induction s with
  | nil => exact Function.injective_id
  | cons v s ih => exact ih.comp (crcStep_left_injective v)

/-- One byte replaced by another changes the fold: the step at that byte tells the two apart, and the steps after it
keep them apart. -/
theorem crcFold_set_ne {s : List Byte} {j : Nat} {v : Byte} (hj : j < s.length) (hv : v ≠ s[j]) (c : Word) :
    crcFold c (s.set j v) ≠ crcFold c s := by
  induction s generalizing c j with
  | nil => exact absurd hj (Nat.not_lt_zero j)
  | cons w s ih =>
    cases j with
    | zero => exact fun h => hv (crcStep_right_injective c (crcFold_injective s h))
    | succ j => exact ih (Nat.lt_of_succ_lt_succ hj) hv (crcStep c w)

/-- Settles O18: the equations are the fold's own, and the two check values are computed. -/
theorem crcOfAChunk : Obligations.CrcOfAChunk :=
  ⟨fun _ _ _ => ⟨rfl, rfl⟩, fun _ _ => ⟨rfl, rfl⟩, by decide +kernel, by decide +kernel⟩

/-! ## One bit of a sequence or of a word flipped (R146) -/

/-- The sequence with bit `k` of byte `j` flipped. -/
def flipBit (s : List Byte) (j k : Nat) : List Byte := s.set j (s.getD j 0#8 ^^^ (1#8 <<< k))

theorem one_shiftLeft_getLsbD {w : Nat} (k : Nat) {i : Nat} (hi : i < w) : (1#w <<< k).getLsbD i = decide (k = i) := by
  rw [← BitVec.twoPow_eq, BitVec.getLsbD_twoPow]
  by_cases h : k = i <;> simp [h, hi]

theorem crcFold_flipBit_ne {s : List Byte} {j k : Nat} (hj : j < s.length) (hk : k < 8) (c : Word) :
    crcFold c (flipBit s j k) ≠ crcFold c s := by
  refine crcFold_set_ne hj (fun h => ?_) c
  rw [List.getD_eq_getElem _ _ hj] at h
  simpa [one_shiftLeft_getLsbD k hk] using congrArg (·.getLsbD k) h

/-- A flipped bit of a word is flipped in the byte that holds it, and in no other. -/
theorem extractByte_flip (t : Word) (k : Nat) {m : Nat} (hm : m < 4) : (t ^^^ (1#32 <<< k)).extractLsb' (8 * m) 8 =
    t.extractLsb' (8 * m) 8 ^^^ if k / 8 = m then 1#8 <<< (k % 8) else 0#8 := by
  refine BitVec.eq_of_getLsbD_eq fun i hi => ?_
  have hword := one_shiftLeft_getLsbD k (w := 32) (i := 8 * m + i) (by omega)
  rw [BitVec.getLsbD_extractLsb', BitVec.getLsbD_xor, BitVec.getLsbD_xor, BitVec.getLsbD_extractLsb', hword]
  split
  case isTrue hkm =>
    have hsame : decide (k = 8 * m + i) = decide (k % 8 = i) := decide_eq_decide.2 (by omega)
    rw [one_shiftLeft_getLsbD _ hi, hsame]
    simp [hi]
  case isFalse hkm =>
    have hother : k ≠ 8 * m + i := by omega
    simp [hi, hother]

/-- Bit `k` of a word is bit `k mod 8` of byte `3 - k / 8` of its BE32 (R9). -/
theorem be32_flip (t : Word) {k : Nat} (hk : k < 32) :
    be32 (t ^^^ (1#32 <<< k)) = flipBit (be32 t) (3 - k / 8) (k % 8) := by
  have h0 := extractByte_flip t k (m := 0) (by decide)
  have h1 := extractByte_flip t k (m := 1) (by decide)
  have h2 := extractByte_flip t k (m := 2) (by decide)
  have h3 := extractByte_flip t k (m := 3) (by decide)
  have hq : k / 8 < 4 := by omega
  rw [be32, be32, flipBit, h0, h1, h2, h3]
  interval_cases k / 8 <;> simp

/-- Two chunks have one CRC when the folds over their payloads, each begun with the fold over the type, end alike. -/
theorem chunkCrc_eq_iff (t t' : Word) (p p' : List Byte) : chunkCrc t p = chunkCrc t' p' ↔
    crcFold (crcFold 0xFFFFFFFF#32 (be32 t)) p = crcFold (crcFold 0xFFFFFFFF#32 (be32 t')) p' := by
  rw [chunkCrc, chunkCrc, BitVec.xor_left_inj, chunkCrcAcc, chunkCrcAcc, crcFold_append, crcFold_append]

/-- Settles O19: a flipped bit of the payload changes the payload's fold; a flipped bit of the type changes the
accumulator the payload's fold starts from, and that fold is one to one in it. -/
theorem crcDetectsSingleBitFlips : Obligations.CrcDetectsSingleBitFlips := by
  refine ⟨fun t p j k hj hk h => ?_, fun t p k hk h => ?_⟩
  · exact crcFold_flipBit_ne hj hk _ ((chunkCrc_eq_iff _ _ _ _).1 h)
  · have hstart := crcFold_injective p ((chunkCrc_eq_iff _ _ _ _).1 h)
    rw [be32_flip t hk] at hstart
    exact crcFold_flipBit_ne (show 3 - k / 8 < 4 by omega) (Nat.mod_lt _ (by decide)) _ hstart

/-! ## The commands (R142 to R145) -/

theorem exec_crcInit_ready {s : State} (h : s.regs.status.err = false) :
    exec .crcInit s = .next (setCrcAcc 0xFFFFFFFF#32 s) := by
  change execCrcInit s = _
  rw [execCrcInit, runCommand_ready h, settle_ok]

theorem exec_crcType_ready {s : State} (h : s.regs.status.err = false) :
    exec .crcType s = .next (setCrcAcc (crcFold s.regs.crcAcc (be32 s.regs.chunkType)) s) := by
  change execCrcType s = _
  rw [execCrcType, runCommand_ready h, settle_ok]

/-- CRC_CSB's length check decides between the update of CRC_ACC and MemoryError (R144). -/
theorem exec_crcCsb_ready {s : State} (h : s.regs.status.err = false) : exec .crcCsb s = .next
    (if s.regs.chunkLen.toNat ≤ s.params.csbCap
      then setCrcAcc (crcFold s.regs.crcAcc (memRead s .csb 0 s.regs.chunkLen.toNat)) s
      else errorState 0x12#8 0x08#8 s) := by
  change execCrcCsb s = _
  rw [execCrcCsb, runCommand_ready h, crcCsb, require_andThen]
  simp only [decide_eq_true_eq]
  split <;> rfl

/-- CRC_CHECK compares CRC_RESULT (R42) with CRC_EXPECT (R145). -/
theorem exec_crcCheck_ready {s : State} (h : s.regs.status.err = false) : exec .crcCheck s = .next
    (if crcResult s.regs = s.regs.crcExpect then s else errorState 0x13#8 0x04#8 s) := by
  change execCrcCheck s = _
  rw [execCrcCheck, runCommand_ready h, require]
  simp only [beq_iff_eq]
  split <;> rfl

/-- Settles O15: the fold over the tag's BE32 is four steps. -/
theorem crcInitAndTypeUpdateTheAccumulator : Obligations.CrcInitAndTypeUpdateTheAccumulator :=
  ⟨rfl, rfl, fun _ herr => ⟨exec_crcInit_ready herr, exec_crcType_ready herr⟩⟩

/-- Settles O16: the two sides of CRC_CSB's length check. -/
theorem crcCsbFoldsThePayload : Obligations.CrcCsbFoldsThePayload := by
  refine ⟨rfl, fun s herr => ?_⟩
  rw [exec_crcCsb_ready herr]
  exact ⟨fun hfits => by rw [if_pos hfits]; rfl, fun hlarge => by rw [if_neg (Nat.not_le.2 hlarge)]⟩

/-- Settles O17: the two sides of CRC_CHECK's comparison. -/
theorem crcCheckCompares : Obligations.CrcCheckCompares := by
  refine ⟨rfl, fun s herr => ?_⟩
  rw [exec_crcCheck_ready herr]
  exact ⟨fun heq => by rw [if_pos (show crcResult s.regs = _ from heq)],
    fun hne => by rw [if_neg (show crcResult s.regs ≠ _ from hne)]⟩

end Sys2Proof.Machine
end

section
/-! PROOFS. The chunk commands CHUNK_HDR, CHUNK_READ, CHUNK_SKIP, CHUNK_EMIT and IDAT_EMIT (42_framer.md R164 to R168,
R174). What a header read, a chunk body and a chunk write do is said once, for a source and a sink that answer; each
command's obligation is then the ends of one of them. -/

set_option autoImplicit false

namespace Sys2Proof.Machine

/-! ## Headers and chunk bodies from a source that answers (R164, R165) -/

section
variable {s : State} {t : Word} {p q hd : List Byte} {src src' : Source}

theorem readHeader_of_delivers (h : Delivers s.source 8 hd src) : readHeader s =
    if hd.length = 8 then .ok () (latchHeader hd (received s src hd.length))
    else .raised .ioError (received s src hd.length) := by
  simp [readHeader, streamRead_of_delivers h, require_andThen]

theorem readCrc_of_delivers (h : Delivers s.source 4 q src) : readCrc t p s =
    if q.length = 4 then checkBody t p q (received s src q.length)
    else .raised .ioError (received s src q.length) := by
  simp [readCrc, streamRead_of_delivers h, require_andThen]

theorem readBody_of_large (h : s.params.csbCap < s.regs.chunkLen.toNat) : readBody t s = .raised .memoryError s := by
  simp [readBody, require_andThen, h]

theorem readBody_of_delivers (hn : s.regs.chunkLen.toNat ≤ s.params.csbCap)
    (h : Delivers s.source s.regs.chunkLen.toNat p src) : readBody t s =
    if p.length = s.regs.chunkLen.toNat then readCrc t p (bodyKept s p src)
    else .raised .ioError (bodyKept s p src) := by
  simp [readBody, hn, streamRead_of_delivers h, require_andThen, bodyKept]

theorem readBody_of_short_payload (hn : s.regs.chunkLen.toNat ≤ s.params.csbCap)
    (h : Delivers s.source s.regs.chunkLen.toNat p src) (hp : p.length < s.regs.chunkLen.toNat) :
    readBody t s = .raised .ioError (bodyKept s p src) := by
  rw [readBody_of_delivers hn h, if_neg hp.ne]

section
variable (hn : s.regs.chunkLen.toNat ≤ s.params.csbCap) (h : Delivers s.source s.regs.chunkLen.toNat p src)
  (hp : p.length = s.regs.chunkLen.toNat) (h' : Delivers src 4 q src')
include hn h hp h'

theorem readBody_of_short_crc (hq : q.length < 4) :
    readBody t s = .raised .ioError (received (bodyKept s p src) src' q.length) := by
  rw [readBody_of_delivers hn h, if_pos hp, readCrc_of_delivers (by rwa [bodyKept_source]), if_neg hq.ne]

theorem readBody_of_whole (hq : q.length = 4) : readBody t s =
    if chunkCrc t p = unBe32 q then .ok p (bodyLoaded t s p q src src')
    else .raised .crcError (bodyLoaded t s p q src src') := by
  rw [readBody_of_delivers hn h, if_pos hp, readCrc_of_delivers (by rwa [bodyKept_source]), if_pos hq, checkBody_eq,
    bodyLoaded]

end

/-! ## CHUNK_HDR, CHUNK_READ, CHUNK_SKIP (R165 to R167) -/

/-- Settles O21: a header read of eight bytes latches, a shorter one raises IoError. -/
theorem chunkHdrLatchesHeader : Obligations.ChunkHdrLatchesHeader := by
  refine ⟨rfl, fun s hd src herr h => ?_⟩
  have hexec : exec .chunkHdr s = .next (settle 0x20#8 (readHeader s)) := runCommand_ready herr _ _
  rw [hexec, readHeader_of_delivers h]
  refine ⟨fun hl => ?_, fun hl => ?_⟩
  · rw [if_pos hl, hl]
    rfl
  · rw [if_neg hl.ne]
    rfl

theorem exec_chunkRead_ready (h : s.regs.status.err = false) : exec .chunkRead s =
    .next (settle 0x21#8 ((readBody s.regs.chunkType s).andThen fun _ u => .ok () u)) :=
  runCommand_ready h 0x21#8 fun s => (readBody s.regs.chunkType s).andThen fun _ u => .ok () u

/-- Settles O22: the five ends of a chunk body. -/
theorem chunkReadReadsAndChecks : Obligations.ChunkReadReadsAndChecks := by
  refine ⟨rfl, fun s herr => ?_⟩
  rw [exec_chunkRead_ready herr]
  refine ⟨fun hlarge => ?_, fun p src hn h => ⟨fun hp => ?_, fun hp q src' h' => ⟨fun hq => ?_, fun hq =>
    ⟨fun hcrc => ?_, fun hcrc => ?_⟩⟩⟩⟩
  · rw [readBody_of_large hlarge]
    rfl
  · rw [readBody_of_short_payload hn h hp]
    rfl
  · rw [readBody_of_short_crc hn h hp h' hq]
    rfl
  · rw [readBody_of_whole hn h hp h' hq, if_pos hcrc]
    rfl
  · rw [readBody_of_whole hn h hp h' hq, if_neg hcrc]
    rfl

theorem chunkSkip_of_delivers (h : Delivers s.source (s.regs.chunkLen.toNat + 4) p src) : chunkSkip s =
    if p.length = s.regs.chunkLen.toNat + 4 then .ok () (received s src p.length)
    else .raised .ioError (received s src p.length) := by
  simp [chunkSkip, streamRead_of_delivers h, require]

/-- Settles O23: the read of CHUNK_LEN + 4 bytes is answered in full or not. -/
theorem chunkSkipDiscards : Obligations.ChunkSkipDiscards := by
  refine ⟨rfl, fun s d src herr h => ?_⟩
  have hexec : exec .chunkSkip s = .next (settle 0x22#8 (chunkSkip s)) := runCommand_ready herr _ _
  rw [hexec, chunkSkip_of_delivers h]
  refine ⟨fun hd => ?_, fun hd => ?_⟩
  · rw [if_pos hd]
    rfl
  · rw [if_neg hd.ne]
    rfl

/-! ## CHUNK_EMIT, IDAT_EMIT (R168, R174) -/

section
variable {k : Nat} (h : sinkAnswer s.sink (chunkBytes t p) = some k)
include h

theorem emitChunk_of_answer : emitChunk t p s =
    require (k == (chunkBytes t p).length) .ioError (sent (setCrcAcc (chunkCrcAcc t p) s) (chunkBytes t p) k) :=
  streamWrite_of_answer (s := setCrcAcc (chunkCrcAcc t p) s) (chunkBytes_ne_nil t p) h

theorem emitChunk_of_accepted (hk : k = (chunkBytes t p).length) :
    emitChunk t p s = .ok () (sent (setCrcAcc (chunkCrcAcc t p) s) (chunkBytes t p) k) := by
  rw [emitChunk_of_answer h, require_pos (beq_iff_eq.2 hk)]

theorem emitChunk_of_short (hk : k < (chunkBytes t p).length) :
    emitChunk t p s = .raised .ioError (sent (setCrcAcc (chunkCrcAcc t p) s) (chunkBytes t p) k) := by
  rw [emitChunk_of_answer h, require_neg (beq_false_of_ne hk.ne)]

end

/-- A payload of CHUNK_LEN bytes has CHUNK_LEN as its length field. -/
theorem chunkBytes_of_length {len : Word} (h : p.length = len.toNat) :
    chunkBytes t p = be32 len ++ be32 t ++ p ++ be32 (chunkCrc t p) := by
  rw [chunkBytes, h, BitVec.ofNat_toNat, BitVec.setWidth_eq]

/-- Settles O24: CHUNK_LEN's check, then the chunk's bytes taken in full or not. -/
theorem chunkEmitWritesOneChunk : Obligations.ChunkEmitWritesOneChunk := by
  refine ⟨rfl, fun s herr => ?_⟩
  have hexec : exec .chunkEmit s = .next (settle 0x23#8 (chunkEmit s)) := runCommand_ready herr _ _
  rw [hexec, chunkEmit, require_andThen]
  refine ⟨fun hlarge => ?_, fun hfits => ?_⟩
  · rw [if_neg (by simpa using hlarge)]
    rfl
  · rw [if_pos (by simpa using hfits)]
    dsimp only
    rw [← chunkBytes_of_length (memRead_length s .csb 0 _)]
    intro k hk
    refine ⟨fun hall => ?_, fun hshort => ?_⟩
    · rw [emitChunk_of_accepted hk hall]
      rfl
    · rw [emitChunk_of_short hk hshort]
      rfl

/-- Settles O25: CFG's check, the deflater's answer, then the chunk's bytes taken in full or not. -/
theorem idatEmitWritesOneChunk : Obligations.IdatEmitWritesOneChunk := by
  refine ⟨rfl, fun s herr => ?_⟩
  have hexec : exec .idatEmit s = .next (settle 0x25#8 (idatEmit s)) := runCommand_ready herr _ _
  rw [hexec, idatEmit, idatTag]
  simp only [require_andThen]
  refine ⟨fun hcfg => ?_, fun hcfg => ⟨fun hok => ?_, fun hok k hk => ?_⟩⟩
  · rw [hcfg]
    rfl
  · rw [if_pos hcfg, hok]
    rfl
  · rw [if_pos hcfg, if_pos hok]
    -- No clause depends on the tag's value, and `rfl` would unfold it in unary.
    generalize (0x49444154#32 : Word) = tag at hk ⊢
    refine ⟨fun hall => ?_, fun hshort => ?_⟩
    · rw [emitChunk_of_accepted (s := setChunk _ _ (deflateCalled s)) hk hall]
      rfl
    · rw [emitChunk_of_short (s := setChunk _ _ (deflateCalled s)) hk hshort]
      rfl

end

end Sys2Proof.Machine
end

section
/-! PROOFS. IDAT_RUN (42_framer.md R169 to R173). The pieces of a turn are said once, in the order in which a turn takes
them: the chunk body, the inflater's answer, the next header, the end check. The turn's ends are those pieces put
together, and a run of one chunk is its start and one such turn. -/

set_option autoImplicit false

namespace Sys2Proof.Machine

/-! ## The start (R169) -/

theorem exec_idatRun_ready {s : State} (h : s.regs.status.err = false) : exec .idatRun s = .next (idatRun s) := by
  change execIdatRun s = _
  rw [execIdatRun, h]
  rfl

theorem idatStart_eq (s : State) : idatStart s =
    if s.regs.status.cfg = true ∧ s.regs.chunkType = idatTag then
      if s.regs.status.frState = .idle then .ok () (beginRun s) else .raised .corruptedError s
    else .raised .sequenceError s := by
  simp only [idatStart, require_andThen, beq_iff_eq, ite_and]

theorem idatRun_of_start {s : State} (hcfg : s.regs.status.cfg = true) (htag : s.regs.chunkType = idatTag)
    (hidle : s.regs.status.frState = .idle) : idatRun s = idatTurn (beginRun s) := by
  rw [idatRun, idatStart_eq, if_pos ⟨hcfg, htag⟩, if_pos hidle]

/-- Settles O26: the preconditions in their order, and the state the first turn starts from. -/
theorem idatRunStarts : Obligations.IdatRunStarts := by
  refine ⟨rfl, fun s herr => ?_⟩
  rw [exec_idatRun_ready herr]
  refine ⟨fun hseq => ?_, fun hcfg htag hbusy => ?_, fun hcfg htag hidle => ?_⟩
  · have hno : ¬ (s.regs.status.cfg = true ∧ s.regs.chunkType = idatTag) := fun hyes =>
      hseq.elim (by simp [hyes.1]) (· hyes.2)
    rw [idatRun, idatStart_eq, if_neg hno]
    rfl
  · rw [idatRun, idatStart_eq, if_pos ⟨hcfg, htag⟩, if_neg hbusy]
    rfl
  · rw [idatRun_of_start hcfg htag hidle]
    rfl

/-! ## The chunk in a turn (R170) -/

/-- The state after the inflater was given the payload `p` in `u`. -/
def payloadInflated (p : List Byte) (u : State) : State :=
  inflateCalled (inflateAnswer u p (idatRoom u.regs)).status u

/-- The state after the inflater's output for `p` was stored in SLB. -/
def outputStored (p : List Byte) (u : State) : State :=
  bufferOutput (inflateAnswer u p (idatRoom u.regs)).output (payloadInflated p u)

/-- The state after the chunk with payload `p` was counted. -/
def chunkCounted (p : List Byte) (u : State) : State :=
  setIdatCount (nextIdatCount (outputStored p u)) (outputStored p u)

section
variable {s u : State} {p : List Byte} {e : ErrKind}

theorem idatTurn_of_body_raised (h : readBody idatTag s = .raised e u) : idatTurn s = failRun e u := by
  rw [idatTurn, idatChunk, h]
  rfl

variable (h : readBody idatTag s = .ok p u)
include h

theorem idatTurn_of_body_ok : idatTurn s = settleRun ((feedInflater p u).andThen fun _ => idatNext) := by
  rw [idatTurn, idatChunk, h, andThen_ok]

theorem idatTurn_of_inflate_error (hz : (inflateAnswer u p (idatRoom u.regs)).status = .error) :
    idatTurn s = failRun .compressionError (payloadInflated p u) := by
  rw [idatTurn_of_body_ok h, feedInflater_eq, if_pos hz]
  rfl

variable (hz : (inflateAnswer u p (idatRoom u.regs)).status ≠ .error)
include hz

theorem idatTurn_of_unconsumed (hc : (inflateAnswer u p (idatRoom u.regs)).consumed ≠ p.length) :
    idatTurn s = failRun .compressionError (outputStored p u) := by
  rw [idatTurn_of_body_ok h, feedInflater_eq, if_neg hz, if_pos hc]
  rfl

theorem idatTurn_of_consumed (hc : (inflateAnswer u p (idatRoom u.regs)).consumed = p.length) :
    idatTurn s = settleRun (idatNext (chunkCounted p u)) := by
  rw [idatTurn_of_body_ok h, feedInflater_eq, if_neg hz, if_neg (not_not.2 hc)]
  rfl

end

/-! ## The next header and the end check (R171, R172) -/

theorem idatEnd_eq (s : State) : idatEnd s =
    if s.frZst = .complete ∧ s.regs.frOut = s.regs.slbSize then .ok () (finishRun s)
    else .raised .compressionError s := by
  simp only [idatEnd, require_andThen, Bool.and_eq_true, beq_iff_eq]

section
variable {s : State} {hd : List Byte} {src : Source} (h : Delivers s.source 8 hd src)
include h

theorem idatNext_of_short (hl : hd.length < 8) : idatNext s = .raised .ioError (received s src hd.length) := by
  rw [idatNext, readHeader_of_delivers h, if_neg hl.ne, andThen_raised]

theorem idatNext_of_idat (hl : hd.length = 8) (ht : unBe32 (hd.drop 4) = idatTag) :
    idatNext s = .ok () (latchHeader hd (received s src 8)) := by
  rw [idatNext, readHeader_of_delivers h, if_pos hl, andThen_ok, hl]
  exact if_pos ht

theorem idatNext_of_other (hl : hd.length = 8) (ht : unBe32 (hd.drop 4) ≠ idatTag) :
    idatNext s = idatEnd (latchHeader hd (received s src 8)) := by
  rw [idatNext, readHeader_of_delivers h, if_pos hl, andThen_ok, hl]
  exact if_neg ht

end

/-! ## A turn whose chunk is whole -/

theorem readBody_of_good_chunk {s : State} {t : Word} {p q : List Byte} {src src' : Source}
    (hn : s.regs.chunkLen.toNat ≤ s.params.csbCap) (h : Delivers s.source s.regs.chunkLen.toNat p src)
    (hp : p.length = s.regs.chunkLen.toNat) (h' : Delivers src 4 q src') (hq : q.length = 4)
    (hcrc : unBe32 q = chunkCrc t p) : readBody t s =
      .ok p (loadCrcs (unBe32 q) (chunkCrcAcc t p) (received (bodyKept s p src) src' 4)) := by
  rw [readBody_of_whole hn h hp h' hq, if_pos hcrc.symm, bodyLoaded, hq]

/-- Settles O28: the pieces of a turn in their order. -/
theorem idatTurnTakesOneChunk : Obligations.IdatTurnTakesOneChunk := by
  intro s p q src src' hn h hp h' hq hcrc body
  have hbody : readBody idatTag s = .ok p body := readBody_of_good_chunk hn h hp h' hq hcrc
  -- All that the rest of the turn needs of the chunk body.
  have hfrOut : s.regs.frOut = body.regs.frOut := rfl
  have hsize : s.regs.slbSize = body.regs.slbSize := rfl
  have hcount : s.regs.idatCount = body.regs.idatCount := rfl
  have hsource : body.source = src' := rfl
  rw [hfrOut, hsize, hcount, ← idatTag]
  clear_value body
  intro a called wrote fed
  refine ⟨fun hz => idatTurn_of_inflate_error hbody hz, fun hz hc => idatTurn_of_unconsumed hbody hz hc,
    fun hz hc hd src'' hdel => ?_⟩
  have hturn : idatTurn s = settleRun (idatNext fed) := idatTurn_of_consumed hbody hz hc
  replace hdel : Delivers fed.source 8 hd src'' := hsource ▸ hdel
  have hfedSize : body.regs.slbSize = fed.regs.slbSize := rfl
  have hstatus : a.status = fed.frZst := rfl
  rw [hturn, hfedSize, hstatus]
  clear_value fed
  refine ⟨fun hl => ?_, fun hl => ⟨fun ht => ?_, fun ht => ?_⟩⟩
  · rw [idatNext_of_short hdel hl]
    rfl
  · rw [idatNext_of_idat hdel hl ht]
    rfl
  · rw [idatNext_of_other hdel hl ht, idatEnd_eq]
    exact ⟨fun hend => congrArg settleRun (if_pos hend), fun hend => congrArg settleRun (if_neg hend)⟩

/-! ## A run of one chunk -/

/-- The next listed answer of the inflater, where it is within the contract's bounds (R160). -/
theorem inflateAnswer_of_script {s : State} {a : InflateAnswer} {rest : List InflateAnswer} {input : List Byte}
    {room : Nat} (h : s.inflater.script = a :: rest) (hc : a.consumed ≤ input.length)
    (ho : a.output.length ≤ room) : inflateAnswer s input room = a := by
  simp only [inflateAnswer, h, inflateBound, min_eq_right hc, List.take_of_length_le ho]

theorem memWrite_slb_eq (s : State) (a : Nat) (bs : List Byte) :
    memWrite s .slb a bs = { s with slb := putBytes s.slb a bs } := rfl

theorem memWrite_csb_eq (s : State) (a : Nat) (bs : List Byte) :
    memWrite s .csb a bs = { s with csb := putBytes s.csb a bs } := rfl

/-- The first chunk of a run that fills SLB: FR_OUT becomes SLB_SIZE and IDAT_COUNT 1. -/
theorem chunkCounted_of_first {u : State} {p : List Byte} {a : InflateAnswer} (hfrOut : u.regs.frOut = 0#32)
    (hcount : u.regs.idatCount = 0#32) (ha : inflateAnswer u p (idatRoom u.regs) = a)
    (ho : a.output.length = u.regs.slbSize.toNat) : chunkCounted p u =
      setIdatCount 1#32 (setFrOut u.regs.slbSize (memWrite (inflateCalled a.status u) .slb 0 a.output)) := by
  simp [chunkCounted, outputStored, payloadInflated, bufferOutput, nextIdatCount, ha, hfrOut, hcount, ho]

/-- Settles O27: the run starts, and its one turn passes the end check. -/
theorem idatRunOfOneChunkCompletes : Obligations.IdatRunOfOneChunkCompletes := by
  intro s p q hd src src' src'' a rest herr hcfg hidle htag hn h hp h' hq hcrc hdel hl ht hscript hc hz ho
  refine ⟨_, exec_idatRun_ready herr, ?_⟩
  rw [← idatTag] at htag hcrc ht ⊢
  have hbody := readBody_of_good_chunk (s := beginRun s) (t := idatTag) hn h hp h' hq hcrc
  set u := loadCrcs (unBe32 q) (chunkCrcAcc idatTag p) (received (bodyKept (beginRun s) p src) src' 4) with hu
  have hfrOut : u.regs.frOut = 0#32 := by simp [hu, bodyKept]
  have hcount : u.regs.idatCount = 0#32 := by simp [hu, bodyKept]
  have hsize : u.regs.slbSize = s.regs.slbSize := by simp [hu, bodyKept]
  have hroom : idatRoom u.regs = s.regs.slbSize.toNat := by simp [idatRoom, hfrOut, hsize]
  have ha : inflateAnswer u p (idatRoom u.regs) = a :=
    inflateAnswer_of_script (s := u) hscript hc.le (by rw [hroom, ho])
  have hfed : chunkCounted p u = _ := chunkCounted_of_first hfrOut hcount ha (by rw [hsize, ho])
  have hpos : s.regs.inPos + BitVec.ofNat 32 (p.length + 12) =
      s.regs.inPos + BitVec.ofNat 32 p.length + 4#32 + 8#32 := by
    rw [BitVec.ofNat_add, BitVec.add_assoc, BitVec.add_assoc]
    rfl
  rw [idatRun_of_start hcfg htag hidle, idatTurn_of_consumed hbody (by simp [ha, hz]) (by rw [ha, hc]),
    idatNext_of_other hdel hl ht, idatEnd_eq, hfed, if_pos ⟨hz, rfl⟩, hpos]
  simp [settleRun, finishRun, latchHeader, setChunk, setIdatCount, setFrOut, inflateCalled, memWrite_slb_eq,
    memWrite_csb_eq, hu, bodyKept, received, loadCrcs, hscript, hz]

end Sys2Proof.Machine
end

section
/-! PROOFS. What holds of every turn of an IDAT run (42_framer.md R171, R173): which errors it can raise, that it leaves
ERR alone otherwise, and that a turn that goes through shortens a finite source by at least the 12 bytes of a CRC field
and a header. `TurnPart` is the common form of the pieces of a turn. -/

set_option autoImplicit false

namespace Sys2Proof.Machine

/-! ## Finite sources -/

/-- `src'` is `src` after at least `k` bytes were taken from it, if `src` is a finite stream. -/
def Shortened (k : Nat) (src src' : Source) : Prop :=
  ∀ bs, src = .stream bs → ∃ bs', src' = .stream bs' ∧ bs'.length + k ≤ bs.length

theorem Shortened.refl (src : Source) : Shortened 0 src src := fun bs h => ⟨bs, h, le_rfl⟩

theorem Shortened.trans {k m : Nat} {a b c : Source} (h : Shortened k a b) (h' : Shortened m b c) :
    Shortened (k + m) a c := by
  intro bs hbs
  obtain ⟨bs', hbs', hle⟩ := h bs hbs
  obtain ⟨bs'', hbs'', hle'⟩ := h' bs' hbs'
  exact ⟨bs'', hbs'', by omega⟩

/-- A finite stream answers a read of `n` bytes with its first `n`, so an answer of full length shortens it by `n`. -/
theorem shortened_of_delivers {src src' : Source} {n : Nat} {p : List Byte} (h : Delivers src n p src')
    (hp : p.length = n) : Shortened n src src' := by
  rintro bs rfl
  by_cases hn : n = 0
  · rw [Delivers, if_pos hn] at h
    exact ⟨bs, h.2, by omega⟩
  · rw [Delivers, if_neg hn] at h
    obtain ⟨hanswer, rfl⟩ := h
    rw [sourceAnswer, Option.some.injEq] at hanswer
    refine ⟨bs.drop n, rfl, ?_⟩
    rw [← hanswer, List.length_take] at hp
    rw [List.length_drop]
    omega

theorem not_silentOn_stream (bs : List Byte) (n : Nat) : ¬ SilentOn (.stream bs) n := fun h => nomatch h.2

/-! ## The pieces of a turn -/

/-- The codes of the errors a turn of a run raises (R170 to R173). -/
def turnCodes : List Byte := [0x01#8, 0x04#8, 0x05#8, 0x08#8]

/-- A piece of a turn begun in `s`: where it goes through it has taken at least `k` bytes from a finite source; it hangs
on no finite source; ERR is as it was; and it raises only a turn's errors. -/
def TurnPart {α : Type} (s : State) (k : Nat) : Result α → Prop
  | .ok _ u => u.regs.status.err = s.regs.status.err ∧ Shortened k s.source u.source
  | .raised e _ => errorCode e ∈ turnCodes
  | .blocked _ u => u.regs.status.err = s.regs.status.err ∧ ∀ bs, s.source ≠ .stream bs

theorem turnPart_raised {α : Type} {s u : State} {k : Nat} {e : ErrKind}
    (he : errorCode e ∈ turnCodes := by decide) : TurnPart s k (.raised e u : Result α) := he

theorem turnPart_of_silent {α : Type} {s : State} {k n : Nat} (h : SilentOn s.source n) :
    TurnPart s k (.blocked .source s : Result α) :=
  ⟨rfl, fun bs hbs => not_silentOn_stream bs n (hbs ▸ h)⟩

/-- A piece that follows a shortening of the source. -/
theorem turnPart_of_shortened {α : Type} {s u : State} {k m : Nat} {r : Result α}
    (herr : u.regs.status.err = s.regs.status.err) (hsrc : Shortened k s.source u.source) (hr : TurnPart u m r) :
    TurnPart s (k + m) r := by
  cases r with
  | ok a t => exact ⟨hr.1.trans herr, hsrc.trans hr.2⟩
  | raised e t => exact hr
  | blocked w t =>
    refine ⟨hr.1.trans herr, fun bs hbs => ?_⟩
    obtain ⟨bs', hbs', -⟩ := hsrc bs hbs
    exact hr.2 bs' hbs'

theorem turnPart_andThen {α β : Type} {s : State} {k m : Nat} {r : Result α} {f : α → State → Result β}
    (hr : TurnPart s k r) (hf : ∀ a u, TurnPart u m (f a u)) : TurnPart s (k + m) (r.andThen f) := by
  cases r with
  | ok a u => exact turnPart_of_shortened hr.1 hr.2 (hf a u)
  | raised e u => exact hr
  | blocked w u => exact hr

theorem readCrc_turnPart (t : Word) (p : List Byte) (s : State) : TurnPart s 4 (readCrc t p s) := by
  rcases readCrc_cases t p s with ⟨hs, he⟩ | ⟨q, src, h, ⟨-, he⟩ | ⟨hq, he⟩⟩ <;> rw [he]
  · exact turnPart_of_silent hs
  · exact turnPart_raised
  · rw [checkBody_eq]
    split
    · exact ⟨rfl, shortened_of_delivers h hq⟩
    · exact turnPart_raised

theorem readBody_turnPart (t : Word) (s : State) : TurnPart s (s.regs.chunkLen.toNat + 4) (readBody t s) := by
  rcases readBody_cases t s with ⟨-, he⟩ | ⟨-, ⟨hs, he⟩ | ⟨p, src, h, ⟨-, he⟩ | ⟨hp, he⟩⟩⟩ <;> rw [he]
  · exact turnPart_raised
  · exact turnPart_of_silent hs
  · exact turnPart_raised
  · have hcrc := readCrc_turnPart t p (bodyKept s p src)
    exact turnPart_of_shortened (u := bodyKept s p src) rfl (shortened_of_delivers h hp) hcrc

theorem feedInflater_turnPart (p : List Byte) (s : State) : TurnPart s 0 (feedInflater p s) := by
  rw [feedInflater_eq]
  split
  · exact turnPart_raised
  · split
    · exact turnPart_raised
    · exact ⟨rfl, .refl s.source⟩

theorem readHeader_turnPart (s : State) : TurnPart s 8 (readHeader s) := by
  rcases readHeader_cases s with ⟨hs, he⟩ | ⟨hd, src, h, ⟨-, he⟩ | ⟨hl, he⟩⟩ <;> rw [he]
  · exact turnPart_of_silent hs
  · exact turnPart_raised
  · exact ⟨rfl, shortened_of_delivers h hl⟩

theorem idatEnd_turnPart (s : State) : TurnPart s 0 (idatEnd s) := by
  rw [idatEnd_eq]
  split
  · exact ⟨rfl, .refl s.source⟩
  · exact turnPart_raised

theorem idatNext_turnPart (s : State) : TurnPart s 8 (idatNext s) := by
  refine turnPart_andThen (m := 0) (readHeader_turnPart s) fun _ u => ?_
  split
  · exact ⟨rfl, .refl u.source⟩
  · exact idatEnd_turnPart u

theorem turn_turnPart (s : State) :
    TurnPart s (s.regs.chunkLen.toNat + 4 + 0 + 8) ((idatChunk s).andThen fun _ => idatNext) :=
  turnPart_andThen (turnPart_andThen (readBody_turnPart idatTag s) feedInflater_turnPart) fun _ => idatNext_turnPart

/-! ## The obligations -/

/-- A run in progress takes one turn a step (R171, log entry 7). -/
theorem step_of_running {s : State} (hhung : s.hung = none) (hrun : s.running = true)
    (hhost : s.host.head? ≠ some .powerOn) : step s = .next (idatTurn s) := by
  have hproceed : proceed s = .next (idatTurn s) := by
    rw [proceed, hhung]
    exact if_pos hrun
  rw [step, advance]
  split
  · rename_i hs
    exact absurd (by rw [hs, List.head?_cons]) hhost
  · exact hproceed

/-- An error in the state after a turn is one the turn raised, and is entered as R173 and R275 say. -/
theorem idatTurn_error {s : State} (herr : s.regs.status.err = false) (h : (idatTurn s).regs.status.err = true) :
    ∃ e u, errorCode e ∈ turnCodes ∧ idatTurn s = failRun e u := by
  have hpart := turn_turnPart s
  rw [idatTurn] at h ⊢
  cases hr : (idatChunk s).andThen fun _ => idatNext with
  | raised e u => exact ⟨e, u, by rwa [hr] at hpart, rfl⟩
  | ok a u =>
    rw [hr] at h hpart
    exact absurd (hpart.1.symm.trans h) (by simp [herr])
  | blocked w u =>
    rw [hr] at h hpart
    exact absurd (hpart.1.symm.trans h) (by simp [herr])

/-- Settles O29: the errors of a chunk body are a turn's, and each of a turn's errors is entered by `failRun`. -/
theorem idatRunErrorsLeaveFailed : Obligations.IdatRunErrorsLeaveFailed := by
  refine ⟨fun s => step_of_running, fun s herr h => ?_, fun s hlarge => ?_, fun s p src hn h => ⟨fun hp => ?_,
    fun hp q src' h' => ⟨fun hq => ?_, fun hq hcrc => ?_⟩⟩⟩
  · obtain ⟨e, u, he, hturn⟩ := idatTurn_error herr h
    rw [hturn]
    exact ⟨rfl, rfl, rfl, he⟩
  · exact idatTurn_of_body_raised (readBody_of_large hlarge)
  · exact idatTurn_of_body_raised (readBody_of_short_payload hn h hp)
  · exact idatTurn_of_body_raised (readBody_of_short_crc hn h hp h' hq)
  · rw [← idatTag] at hcrc ⊢
    have hbody := readBody_of_whole (t := idatTag) hn h hp h' hq
    rw [if_neg (Ne.symm hcrc), bodyLoaded, hq] at hbody
    exact idatTurn_of_body_raised hbody

/-- Settles O30: a turn that leaves the run in progress went through, for an error ends the run and a finite source
always answers. -/
theorem idatTurnConsumesTheSource : Obligations.IdatTurnConsumesTheSource := by
  intro s bs hsrc hrun
  have hpart := turn_turnPart s
  rw [idatTurn] at hrun ⊢
  cases hr : (idatChunk s).andThen fun _ => idatNext with
  | ok a u =>
    rw [hr] at hpart
    obtain ⟨bs', hbs', hle⟩ := hpart.2 bs hsrc
    exact ⟨bs', hbs', by omega⟩
  | raised e u =>
    rw [hr] at hrun
    exact absurd hrun (by simp [settleRun])
  | blocked w u =>
    rw [hr] at hpart
    exact absurd hsrc (hpart.2 bs)

end Sys2Proof.Machine
end

section
/-! PROOFS. The predictors and the filters as functions of rows (43_filter.md R200 to R204, R207): each byte of a
filtered and of a reconstructed row, and that reconstruction undoes filtering (R210). -/

set_option autoImplicit false

namespace Sys2Proof.Machine

/-! ## The predictors (R202, R203) -/

theorem pred_average_toNat (a b c : Byte) : (pred .average a b c).toNat = (a.toNat + b.toNat) / 2 := by
  have ha := a.isLt
  have hb := b.isLt
  rw [pred, BitVec.toNat_ofNat]
  omega

theorem distance_le_distance {x y z : Int} : distance x y ≤ distance x z ↔ |x - y| ≤ |x - z| := by
  simp only [distance, Int.abs_eq_natAbs, Int.ofNat_le]

/-- Settles O32: Paeth's two tests, in exact arithmetic, pick the nearest neighbour. -/
theorem predictors : Obligations.Predictors := by
  refine fun a b c => ⟨rfl, rfl, rfl, pred_average_toNat a b c, ?_⟩
  simp only [pred, paeth, distance_le_distance]
  refine ⟨fun ha => if_pos ha, fun ⟨hba, hbc⟩ => ?_, fun ⟨hca, hcb⟩ => ?_⟩
  · rw [if_neg fun ha => hba.not_ge ha.1, if_pos hbc]
  · rw [if_neg fun ha => hca.not_ge ha.2, if_neg hcb.not_ge]

/-! ## The prediction of a byte of a row (R201) -/

section
variable {ft : FilterType} {stride : Nat} {prev : Option (List Byte)}

/-- The three neighbours, each 0 where there is none. -/
theorem predictAt_eq (row : List Byte) (x : Nat) : predictAt ft stride prev row x =
    pred ft (if stride ≤ x then row.getD (x - stride) 0#8 else 0#8) (prev.elim 0#8 fun p => p.getD x 0#8)
      (if stride ≤ x then prev.elim 0#8 fun p => p.getD (x - stride) 0#8 else 0#8) := by
  cases prev with
  | none => rw [Option.elim_none, Option.elim_none, ite_self]; rfl
  | some p => rfl

/-- The prediction looks at no byte of the row from x on. -/
theorem predictAt_congr (hstride : 1 ≤ stride) {row row' : List Byte} {x : Nat}
    (h : ∀ y < x, row.getD y 0#8 = row'.getD y 0#8) :
    predictAt ft stride prev row x = predictAt ft stride prev row' x := by
  have hleft : leftByte stride row x = leftByte stride row' x := by
    unfold leftByte
    split
    · exact h _ (by omega)
    · rfl
  rw [predictAt, predictAt, hleft]

/-! ## Filtered rows (R207) -/

theorem filterRow_getD {raw : List Byte} {x : Nat} (hx : x < raw.length) :
    (filterRow ft stride prev raw).getD x 0#8 = sub8 (raw.getD x 0#8) (predictAt ft stride prev raw x) := by
  simp [filterRow, hx]

/-! ## Reconstructed rows (R204) -/

/-- The bytes already reconstructed stay. -/
theorem unfilterFrom_getD_done (rest : List Byte) {out : List Byte} {x : Nat} (hx : x < out.length) :
    (unfilterFrom ft stride prev out rest).getD x 0#8 = out.getD x 0#8 := by
  induction rest generalizing out with
  | nil => rfl
  | cons v rest ih =>
    rw [unfilterFrom, ih (by rw [List.length_append]; omega), List.getD_append _ _ _ _ hx]

/-- The bytes still to come are predicted from the finished row: what the loop looks at is done already. -/
theorem unfilterFrom_getD_rest (hstride : 1 ≤ stride) {out rest : List Byte} {j : Nat} (hj : j < rest.length) :
    (unfilterFrom ft stride prev out rest).getD (out.length + j) 0#8 = add8 (rest.getD j 0#8)
      (predictAt ft stride prev (unfilterFrom ft stride prev out rest) (out.length + j)) := by
  induction rest generalizing out j with
  | nil => exact absurd hj (Nat.not_lt_zero j)
  | cons v rest ih =>
    cases j with
    | zero =>
      have hseen : predictAt ft stride prev (out ++ v :: rest) out.length =
          predictAt ft stride prev (unfilterFrom ft stride prev out (v :: rest)) out.length :=
        predictAt_congr hstride fun y hy => by rw [unfilterFrom_getD_done _ hy, List.getD_append _ _ _ _ hy]
      rw [Nat.add_zero, ← hseen, unfilterFrom, unfilterFrom_getD_done _ (by simp)]
      simp
    | succ j =>
      rw [unfilterFrom]
      simpa [Nat.add_right_comm, Nat.add_assoc] using
        ih (out := out ++ [add8 v (predictAt ft stride prev (out ++ v :: rest) out.length)]) (Nat.lt_of_succ_lt_succ hj)

theorem unfilterRow_getD (hstride : 1 ≤ stride) {cur : List Byte} {x : Nat} (hx : x < cur.length) :
    (unfilterRow ft stride prev cur).getD x 0#8 =
      add8 (cur.getD x 0#8) (predictAt ft stride prev (unfilterRow ft stride prev cur) x) := by
  simpa [unfilterRow] using unfilterFrom_getD_rest (out := []) hstride hx

/-- Reconstruction undoes filtering byte by byte: the neighbours it predicts from are raw bytes again (R210). -/
theorem unfilterRow_filterRow_getD (hstride : 1 ≤ stride) (raw : List Byte) {x : Nat} (hx : x < raw.length) :
    (unfilterRow ft stride prev (filterRow ft stride prev raw)).getD x 0#8 = raw.getD x 0#8 := by
  induction x using Nat.strong_induction_on with
  | _ x ih =>
    have hraw : predictAt ft stride prev (unfilterRow ft stride prev (filterRow ft stride prev raw)) x =
        predictAt ft stride prev raw x := predictAt_congr hstride fun y hy => ih y hy (hy.trans hx)
    rw [unfilterRow_getD hstride (by rwa [filterRow_length]), hraw, filterRow_getD hx]
    exact BitVec.sub_add_cancel _ _

theorem unfilterRow_filterRow (hstride : 1 ≤ stride) (raw : List Byte) :
    unfilterRow ft stride prev (filterRow ft stride prev raw) = raw := by
  refine List.ext_getElem (by simp) fun x hx hx' => ?_
  rw [← List.getD_eq_getElem _ 0#8 hx, ← List.getD_eq_getElem _ 0#8 hx', unfilterRow_filterRow_getD hstride raw hx']

end

/-- Settles O33: the recurrence of the reconstruction loop, with the neighbours spelled out. -/
theorem unfilterRowRecurrence : Obligations.UnfilterRowRecurrence := by
  refine fun ft stride prev cur hstride => ⟨unfilterRow_length ft stride prev cur, fun x hx => ?_⟩
  rw [unfilterRow_getD hstride hx, predictAt_eq, add8]

/-- Settles O34: a residual, with the neighbours spelled out. -/
theorem filterRowResiduals : Obligations.FilterRowResiduals := by
  refine fun ft stride prev raw => ⟨filterRow_length ft stride prev raw, fun x hx => ?_⟩
  rw [filterRow_getD hx, predictAt_eq, sub8]

/-- Settles O35: byte by byte, by induction on the position. -/
theorem unfilterUndoesFilter : Obligations.UnfilterUndoesFilter :=
  fun _ _ _ raw hstride => unfilterRow_filterRow hstride raw

end Sys2Proof.Machine
end

section
/-! PROOFS. The commands of the filters (43_filter.md R205, R206, R208, R209): one row decoded or encoded, and the
commands over all the rows left as so many row commands. -/

set_option autoImplicit false

namespace Sys2Proof.Machine

/-! ## Row commands -/

section
variable {s : State} {body : State → Result Unit}

/-- A row command with a row left does its row. -/
theorem rowCommand_of_left {left : State → Bool} (hcfg : s.regs.status.cfg = true) (hleft : left s = true) :
    ((require s.regs.status.cfg .sequenceError s).andThen fun _ s =>
      (require (left s) .sequenceError s).andThen fun _ s => body s) = body s := by
  rw [require_pos hcfg, andThen_ok, require_pos hleft, andThen_ok]

/-- A row command of an unconfigured block, or with no row left, is out of sequence. -/
theorem rowCommand_of_none_left {left : State → Bool} (h : s.regs.status.cfg = false ∨ left s = false) :
    ((require s.regs.status.cfg .sequenceError s).andThen fun _ s =>
      (require (left s) .sequenceError s).andThen fun _ s => body s) = .raised .sequenceError s := by
  cases hcfg : s.regs.status.cfg with
  | false => rfl
  | true =>
    have hleft : left s = false := h.resolve_left (by simp [hcfg])
    rw [require_true, andThen_ok, require_neg hleft, andThen_raised]

theorem repeatRows_succ_of_ok {t : State} (n : Nat) (h : body s = .ok () t) :
    repeatRows body (n + 1) s = repeatRows body n t := by
  rw [repeatRows, h, andThen_ok]

/-- Rows that go through, then the rest. -/
theorem repeatRows_add_of_ok {m : Nat} (n : Nat) {t : State} (h : repeatRows body m s = .ok () t) :
    repeatRows body (m + n) s = repeatRows body n t := by
  induction m generalizing s with
  | zero =>
    cases h
    rw [Nat.zero_add]
  | succ m ih =>
    cases hb : body s with
    | ok _ u =>
      rw [repeatRows_succ_of_ok _ hb] at h
      rw [Nat.succ_add, repeatRows_succ_of_ok _ hb, ih h]
    | raised e u => rw [repeatRows, hb] at h; cases h
    | blocked w u => rw [repeatRows, hb] at h; cases h

/-- A loop over n rows that cannot fail is n row commands: `P n` says that n rows are left and go through. -/
theorem repeatRows_eq_execAll {i : Instr} {P : Nat → State → Prop}
    (hrow : ∀ n v, P (n + 1) v → ∃ w, body v = .ok () w ∧ exec i v = .next w ∧ P n w) {n : Nat} (h : P n s) :
    ∃ u, repeatRows body n s = .ok () u ∧ execAll (List.replicate n i) s = .next u ∧ P 0 u := by
  induction n generalizing s with
  | zero => exact ⟨s, rfl, rfl, h⟩
  | succ n ih =>
    obtain ⟨w, hbody, hexec, hw⟩ := hrow n s h
    obtain ⟨u, hloop, hall, hu⟩ := ih hw
    exact ⟨u, (repeatRows_succ_of_ok n hbody).trans hloop, (execAll_cons_next hexec).trans hall, hu⟩

end

/-- A counter that is not at its end may be advanced. -/
theorem toNat_add_one_of_lt {v w : Word} (h : v.toNat < w.toNat) : (v + 1#32).toNat = v.toNat + 1 := by
  bv_omega

/-- A write of n bytes changes only those n (20_memory.md R61). -/
theorem memWrite_onlyBytes {s : State} {sp : Space} {a n : Nat} {bs : List Byte} (h : bs.length = n) :
    OnlyBytes s (memWrite s sp a bs) sp a n :=
  fun sp' a' hout => readByte_memWrite_outside s sp sp' a a' bs (by rwa [h])

/-! ## Filter types (30_encoding.md R97) -/

theorem filterTypeOf_eq_none_iff (b : Byte) : filterTypeOf b = none ↔ 4 < b.toNat := by
  unfold filterTypeOf
  split <;> simp_all
  omega

theorem filterTypeOf_of_le {b : Byte} (h : b.toNat ≤ 4) : ∃ ft, filterTypeOf b = some ft :=
  Option.ne_none_iff_exists'.1 fun hnone => h.not_gt ((filterTypeOf_eq_none_iff b).1 hnone)

/-- OP, ARG and RSV of a FILTER command's word (R91). -/
theorem append_filterType (op ft : Byte) : op ++ (ft ++ 0#16) = op ++ ft ++ 0#16 := by
  rw [BitVec.append_assoc]
  rfl

theorem withFilterType_of_some {b : Byte} {ft : FilterType} (h : filterTypeOf b = some ft)
    (body : FilterType → State → Result Unit) (s : State) : withFilterType b body s = body ft s := by
  rw [withFilterType, h]

/-! ## UNFILTER_ROW (R205) -/

section
variable {s : State} {ft : FilterType}

/-- The state after row UF_ROW is reconstructed with the filter `ft`. -/
def unfiltered (ft : FilterType) (s : State) : State :=
  setUfRow (s.regs.ufRow + 1#32) (memWrite s .slb (dataAt s.regs s.regs.ufRow.toNat 0)
    (unfilterRow ft s.regs.stride.toNat (slbRowAbove s s.regs.ufRow.toNat) (slbRow s s.regs.ufRow.toNat)))

@[simp] theorem unfiltered_regs (ft : FilterType) (s : State) :
    (unfiltered ft s).regs = { s.regs with ufRow := s.regs.ufRow + 1#32 } := rfl

theorem unfilterNext_of_known (h : filterTypeOf (filterByte s s.regs.ufRow.toNat) = some ft) :
    unfilterNext s = .ok () (unfiltered ft s) := by
  rcases unfilterNext_cases s with ⟨hnone, -⟩ | ⟨ft', hft', he⟩
  · simp [hnone] at h
  · cases hft'.symm.trans h
    exact he

theorem unfilterNext_of_unknown (h : 4 < (filterByte s s.regs.ufRow.toNat).toNat) :
    unfilterNext s = .raised .unknownFilterError s := by
  have hnone := (filterTypeOf_eq_none_iff _).2 h
  rcases unfilterNext_cases s with ⟨-, he⟩ | ⟨ft, hft, -⟩
  · exact he
  · simp [hnone] at hft

theorem unfiltered_onlyBytes (ft : FilterType) (s : State) :
    OnlyBytes s (unfiltered ft s) .slb (dataAt s.regs s.regs.ufRow.toNat 0) s.regs.pitch.toNat :=
  memWrite_onlyBytes (by rw [unfilterRow_length, slbRow_length])

theorem unfilterOne_of_left (hcfg : s.regs.status.cfg = true) (hrow : s.regs.ufRow.toNat < s.regs.height.toNat) :
    unfilterOne s = unfilterNext s :=
  rowCommand_of_left (left := fun s => s.regs.ufRow.toNat < s.regs.height.toNat) hcfg (decide_eq_true hrow)

theorem unfilterOne_of_none_left (h : s.regs.status.cfg = false ∨ s.regs.height.toNat ≤ s.regs.ufRow.toNat) :
    unfilterOne s = .raised .sequenceError s :=
  rowCommand_of_none_left (left := fun s => s.regs.ufRow.toNat < s.regs.height.toNat)
    (h.imp_right fun hrow => decide_eq_false hrow.not_gt)

theorem exec_unfilterRow_ready (h : s.regs.status.err = false) :
    exec .unfilterRow s = .next (settle 0x30#8 (unfilterOne s)) := runCommand_ready h 0x30#8 unfilterOne

theorem exec_unfilterRow_of_known (herr : s.regs.status.err = false) (hcfg : s.regs.status.cfg = true)
    (hrow : s.regs.ufRow.toNat < s.regs.height.toNat)
    (h : filterTypeOf (filterByte s s.regs.ufRow.toNat) = some ft) :
    exec .unfilterRow s = .next (unfiltered ft s) := by
  rw [exec_unfilterRow_ready herr, unfilterOne_of_left hcfg hrow, unfilterNext_of_known h, settle_ok]

end

/-- Settles O36: the three ends of UNFILTER_ROW. -/
theorem unfilterRowReconstructs : Obligations.UnfilterRowReconstructs := by
  refine ⟨rfl, fun s herr => ⟨fun h => ?_, fun hcfg hrow => ⟨fun hbyte => ?_, fun ft hft => ?_⟩⟩⟩
  · rw [exec_unfilterRow_ready herr, unfilterOne_of_none_left h]
    rfl
  · rw [exec_unfilterRow_ready herr, unfilterOne_of_left hcfg hrow, unfilterNext_of_unknown hbyte]
    rfl
  · exact exec_unfilterRow_of_known herr hcfg hrow hft

/-! ## UNFILTER_ALL (R206) -/

section
variable {s : State}

theorem unfilterAll_of_configured (hcfg : s.regs.status.cfg = true) :
    unfilterAll s = repeatRows unfilterNext (s.regs.height.toNat - s.regs.ufRow.toNat) s := by
  rw [unfilterAll, require_pos hcfg, andThen_ok]

theorem exec_unfilterAll_ready (h : s.regs.status.err = false) :
    exec .unfilterAll s = .next (settle 0x31#8 (unfilterAll s)) := runCommand_ready h 0x31#8 unfilterAll

end

/-- Reconstruction begun in `s` with n rows to go before row k: of the registers UF_ROW alone has changed, and no byte
of SLB from row UF_ROW on. -/
structure UnfilteringTo (s : State) (k n : Nat) (v : State) : Prop where
  regs : v.regs = { s.regs with ufRow := v.regs.ufRow }
  started : s.regs.ufRow.toNat ≤ v.regs.ufRow.toNat
  row : v.regs.ufRow.toNat + n = k
  todo : ∀ a, v.regs.ufRow.toNat * (s.regs.pitch.toNat + 1) ≤ a → readByte v .slb a = readByte s .slb a

section
variable {s v : State} {k n : Nat}

theorem UnfilteringTo.filterByte_eq (hv : UnfilteringTo s k n v) :
    filterByte v v.regs.ufRow.toNat = filterByte s v.regs.ufRow.toNat := by
  rw [filterByte, filtAt, hv.regs]
  exact hv.todo _ le_rfl

/-- One more row: UNFILTER_ROW does what the loop's body does. -/
theorem UnfilteringTo.next (hv : UnfilteringTo s k (n + 1) v) (herr : s.regs.status.err = false)
    (hcfg : s.regs.status.cfg = true) (hk : k ≤ s.regs.height.toNat)
    (hbytes : ∀ i, s.regs.ufRow.toNat ≤ i → i < k → (filterByte s i).toNat ≤ 4) :
    ∃ w, unfilterNext v = .ok () w ∧ exec .unfilterRow v = .next w ∧ UnfilteringTo s k n w := by
  have hbyte := hv.filterByte_eq
  obtain ⟨hregs, hstarted, hrow, htodo⟩ := hv
  have hlt : v.regs.ufRow.toNat < v.regs.height.toNat := by
    rw [show v.regs.height = s.regs.height by rw [hregs]]
    omega
  obtain ⟨ft, hft⟩ := filterTypeOf_of_le (hbytes v.regs.ufRow.toNat hstarted (by omega))
  rw [← hbyte] at hft
  have hnext : (unfiltered ft v).regs.ufRow.toNat = v.regs.ufRow.toNat + 1 := toNat_add_one_of_lt hlt
  have hstatus : v.regs.status = s.regs.status := by rw [hregs]
  refine ⟨unfiltered ft v, unfilterNext_of_known hft,
    exec_unfilterRow_of_known (hstatus ▸ herr) (hstatus ▸ hcfg) hlt hft, ⟨?_, by omega, by omega, fun a ha => ?_⟩⟩
  · rw [unfiltered_regs, hregs]
  · have hpitch : v.regs.pitch = s.regs.pitch := by rw [hregs]
    rw [hnext, Nat.succ_mul] at ha
    rw [unfiltered_onlyBytes ft v .slb a, htodo a (by omega)]
    rw [dataAt, hpitch]
    omega

end

/-- Settles O37: k − UF_ROW turns of the loop are as many UNFILTER_ROW commands; what UNFILTER_ALL does after them is
nothing, or the error of row k. -/
theorem unfilterAllRepeatsUnfilterRow : Obligations.UnfilterAllRepeatsUnfilterRow := by
  refine ⟨rfl, fun s herr => ⟨fun hcfg => ?_, fun hcfg k hfrom hk hbytes => ?_⟩⟩
  · rw [exec_unfilterAll_ready herr, unfilterAll, require_neg hcfg]
    rfl
  · have hstart : UnfilteringTo s k (k - s.regs.ufRow.toNat) s := ⟨rfl, le_rfl, by omega, fun _ _ => rfl⟩
    obtain ⟨u, hloop, hall, hu⟩ := repeatRows_eq_execAll (fun _ _ hv => hv.next herr hcfg hk hbytes) hstart
    have hrow : u.regs.ufRow.toNat = k := hu.row
    have hrest (m : Nat) (hm : s.regs.height.toNat = k + m) : exec .unfilterAll s =
        .next (settle 0x31#8 (repeatRows unfilterNext m u)) := by
      rw [exec_unfilterAll_ready herr, unfilterAll_of_configured hcfg,
        show s.regs.height.toNat - s.regs.ufRow.toNat = k - s.regs.ufRow.toNat + m by omega,
        repeatRows_add_of_ok m hloop]
    refine ⟨u, hall, hrow, by rw [hu.regs], fun a ha => hu.todo a (by rwa [hrow]), fun hend => hrest 0 hend.symm,
      fun hlt hbyte => ?_⟩
    have hbad : 4 < (filterByte u u.regs.ufRow.toNat).toNat := by rwa [hu.filterByte_eq, hrow]
    rw [hrest (s.regs.height.toNat - k - 1 + 1) (by omega), repeatRows, unfilterNext_of_unknown hbad]
    rfl

/-! ## FILTER_ROW (R208) -/

section
variable {s : State} {ftByte : Byte} {ft : FilterType}

/-- The state after row FE_LEFT − 1 is filtered with the filter `ft`, whose byte is `ftByte`. -/
def filtered (ftByte : Byte) (ft : FilterType) (s : State) : State :=
  setFeLeft (BitVec.ofNat 32 (s.regs.feLeft.toNat - 1)) (memWrite s .slb (filtAt s.regs (s.regs.feLeft.toNat - 1))
    (ftByte :: filterRow ft s.regs.stride.toNat (slbRowAbove s (s.regs.feLeft.toNat - 1))
      (slbRow s (s.regs.feLeft.toNat - 1))))

@[simp] theorem filtered_regs (ftByte : Byte) (ft : FilterType) (s : State) :
    (filtered ftByte ft s).regs = { s.regs with feLeft := BitVec.ofNat 32 (s.regs.feLeft.toNat - 1) } := rfl

/-- FILTER's body cannot fail. -/
theorem filterNext_eq_filtered (ftByte : Byte) (ft : FilterType) (s : State) :
    filterNext ftByte ft s = .ok () (filtered ftByte ft s) := filterNext_eq ftByte ft s

theorem filtered_feLeft_toNat (ftByte : Byte) (ft : FilterType) (s : State) :
    (filtered ftByte ft s).regs.feLeft.toNat = s.regs.feLeft.toNat - 1 := by
  rw [filtered_regs, BitVec.toNat_ofNat]
  omega

theorem filtered_onlyBytes (ftByte : Byte) (ft : FilterType) (s : State) : OnlyBytes s (filtered ftByte ft s) .slb
    (filtAt s.regs (s.regs.feLeft.toNat - 1)) (s.regs.pitch.toNat + 1) :=
  memWrite_onlyBytes (by rw [List.length_cons, filterRow_length, slbRow_length])

theorem filterOne_of_left (hcfg : s.regs.status.cfg = true) (hrow : 1 ≤ s.regs.feLeft.toNat) :
    filterOne ftByte ft s = .ok () (filtered ftByte ft s) :=
  rowCommand_of_left (left := fun s => 1 ≤ s.regs.feLeft.toNat) hcfg (decide_eq_true hrow)

theorem filterOne_of_none_left (h : s.regs.status.cfg = false ∨ s.regs.feLeft = 0#32) :
    filterOne ftByte ft s = .raised .sequenceError s :=
  rowCommand_of_none_left (left := fun s => 1 ≤ s.regs.feLeft.toNat)
    (h.imp_right fun hrow => by simp [hrow])

theorem exec_filterRow_ready (h : s.regs.status.err = false) (hft : filterTypeOf ftByte = some ft) :
    exec (.filterRow ftByte) s = .next (settle 0x32#8 (filterOne ftByte ft s)) := by
  change execFilterRow ftByte s = _
  rw [execFilterRow, runCommand_ready h, withFilterType_of_some hft]

theorem exec_filterRow_of_left (herr : s.regs.status.err = false) (hft : filterTypeOf ftByte = some ft)
    (hcfg : s.regs.status.cfg = true) (hrow : 1 ≤ s.regs.feLeft.toNat) :
    exec (.filterRow ftByte) s = .next (filtered ftByte ft s) := by
  rw [exec_filterRow_ready herr hft, filterOne_of_left hcfg hrow, settle_ok]

/-- Counting FE_LEFT down, as a number and as a word. -/
theorem ofNat_toNat_sub_one {v : Word} (h : 1 ≤ v.toNat) : BitVec.ofNat 32 (v.toNat - 1) = v - 1#32 := by
  bv_omega

end

/-- Settles O38: the two ends of FILTER_ROW. -/
theorem filterRowFilters : Obligations.FilterRowFilters := by
  refine ⟨append_filterType 0x32#8, fun s ftByte herr => ⟨fun hle h => ?_, fun ft hft hcfg hrow => ?_⟩⟩
  · obtain ⟨ft, hft⟩ := filterTypeOf_of_le hle
    rw [exec_filterRow_ready herr hft, filterOne_of_none_left h]
    rfl
  · rw [exec_filterRow_of_left herr hft hcfg hrow, ← ofNat_toNat_sub_one hrow]
    rfl

/-! ## FILTER_ALL (R209) -/

section
variable {s : State} {ftByte : Byte} {ft : FilterType}

theorem exec_filterAll_ready (h : s.regs.status.err = false) (hft : filterTypeOf ftByte = some ft) :
    exec (.filterAll ftByte) s = .next (settle 0x33#8 (filterAll ftByte ft s)) := by
  change execFilterAll ftByte s = _
  rw [execFilterAll, runCommand_ready h, withFilterType_of_some hft]

theorem filterAll_of_configured (hcfg : s.regs.status.cfg = true) :
    filterAll ftByte ft s = repeatRows (filterNext ftByte ft) s.regs.feLeft.toNat s := by
  rw [filterAll, require_pos hcfg, andThen_ok]

/-- FILTER_ALL is FE_LEFT times FILTER_ROW: STATUS, which decides whether the next row command runs, never changes. -/
theorem exec_filterAll_eq_execAll (herr : s.regs.status.err = false) (hft : filterTypeOf ftByte = some ft)
    (hcfg : s.regs.status.cfg = true) : ∃ u, exec (.filterAll ftByte) s = .next u ∧
      execAll (List.replicate s.regs.feLeft.toNat (.filterRow ftByte)) s = .next u ∧
      u.regs.feLeft = 0#32 ∧ u.regs.status = s.regs.status := by
  obtain ⟨u, hloop, hall, hleft, hstatus⟩ := repeatRows_eq_execAll
    (P := fun n v => v.regs.feLeft.toNat = n ∧ v.regs.status = s.regs.status)
    (fun n v ⟨hleft, hstatus⟩ => ⟨filtered ftByte ft v, filterNext_eq_filtered ftByte ft v,
      exec_filterRow_of_left (hstatus ▸ herr) hft (hstatus ▸ hcfg) (by omega),
      by rw [filtered_feLeft_toNat, hleft, Nat.add_sub_cancel], hstatus⟩)
    ⟨rfl, rfl⟩
  exact ⟨u, by rw [exec_filterAll_ready herr hft, filterAll_of_configured hcfg, hloop, settle_ok], hall,
    BitVec.eq_of_toNat_eq hleft, hstatus⟩

end

/-- Settles O39: FILTER_ALL's check of CFG, then its loop. -/
theorem filterAllRepeatsFilterRow : Obligations.FilterAllRepeatsFilterRow := by
  refine ⟨append_filterType 0x33#8, fun s ftByte herr => ⟨fun hle hcfg => ?_, fun hle hcfg => ?_⟩⟩ <;>
    obtain ⟨ft, hft⟩ := filterTypeOf_of_le hle
  · rw [exec_filterAll_ready herr hft, filterAll, require_neg hcfg]
    rfl
  · exact exec_filterAll_eq_execAll herr hft hcfg

end Sys2Proof.Machine
end

section
/-! PROOFS. The inverse law (43_filter.md R210): filtering every row, from the last one up, and reconstructing every
row, from the first one down, gives every data byte back. A row command changes one scanline; the others are read
through `slbRow` and `filterByte`. -/

set_option autoImplicit false

namespace Sys2Proof.Machine

/-! ## Scanlines that a command leaves alone (20_memory.md R62) -/

/-- Different rows do not overlap. -/
theorem rows_disjoint {i j : Nat} (h : j ≠ i) (n : Nat) : j * n + n ≤ i * n ∨ i * n + n ≤ j * n :=
  h.lt_or_gt.imp row_within row_within

section
variable {s t : State} {a n i j : Nat} (hbytes : OnlyBytes s t .slb a n) (hpitch : t.regs.pitch = s.regs.pitch)
  (hlo : filtAt s.regs i ≤ a) (hhi : a + n ≤ filtAt s.regs i + (s.regs.pitch.toNat + 1)) (hj : j ≠ i)
include hbytes hpitch hlo hhi hj

/-- Stores within scanline i leave the data bytes of every other row. -/
theorem slbRow_of_other_row : slbRow t j = slbRow s j := by
  have hdisjoint := rows_disjoint hj (s.regs.pitch.toNat + 1)
  rw [filtAt] at hlo hhi
  rw [slbRow, slbRow, dataAt, dataAt, hpitch]
  exact memRead_congr _ _ _ _ _ fun x hx => hbytes _ _ (by omega)

/-- Stores within scanline i leave the filter byte of every other row. -/
theorem filterByte_of_other_row : filterByte t j = filterByte s j := by
  have hdisjoint := rows_disjoint hj (s.regs.pitch.toNat + 1)
  rw [filtAt] at hlo hhi
  rw [filterByte, filterByte, filtAt, filtAt, hpitch]
  exact hbytes _ _ (by omega)

end

/-- The row above is a row. -/
theorem slbRowAbove_congr {s t : State} {i : Nat} (h : ∀ j < i, slbRow t j = slbRow s j) :
    slbRowAbove t i = slbRowAbove s i := by
  unfold slbRowAbove
  split
  · rw [h (i - 1) (by omega)]
  · rfl

/-- A read of one byte more, from the front. -/
theorem memRead_succ (s : State) (sp : Space) (a n : Nat) :
    memRead s sp a (n + 1) = readByte s sp a :: memRead s sp (a + 1) n := by
  simp [memRead, List.range_succ_eq_map, Nat.add_assoc, Nat.add_comm 1]

/-! ## What one row command does to the scanlines -/

section
variable (ftByte : Byte) (ft : FilterType) (s : State) {j : Nat}

theorem slbRow_unfiltered_same : slbRow (unfiltered ft s) s.regs.ufRow.toNat =
    unfilterRow ft s.regs.stride.toNat (slbRowAbove s s.regs.ufRow.toNat) (slbRow s s.regs.ufRow.toNat) := by
  have hlen : (unfilterRow ft s.regs.stride.toNat (slbRowAbove s s.regs.ufRow.toNat)
      (slbRow s s.regs.ufRow.toNat)).length = s.regs.pitch.toNat := by
    rw [unfilterRow_length, slbRow_length]
  have hread := memRead_memWrite_same s .slb (dataAt s.regs s.regs.ufRow.toNat 0)
    (unfilterRow ft s.regs.stride.toNat (slbRowAbove s s.regs.ufRow.toNat) (slbRow s s.regs.ufRow.toNat))
  rwa [hlen] at hread

theorem slbRow_unfiltered_other (hj : j ≠ s.regs.ufRow.toNat) : slbRow (unfiltered ft s) j = slbRow s j :=
  slbRow_of_other_row (unfiltered_onlyBytes ft s) rfl (by rw [dataAt, filtAt]; omega) (by rw [dataAt, filtAt]; omega) hj

/-- Reconstruction writes no filter byte. -/
theorem filterByte_unfiltered : filterByte (unfiltered ft s) j = filterByte s j := by
  by_cases hj : j = s.regs.ufRow.toNat
  · refine unfiltered_onlyBytes ft s _ _ fun ⟨_, hlo, _⟩ => ?_
    have hat : filtAt (unfiltered ft s).regs j = filtAt s.regs s.regs.ufRow.toNat := congrArg (filtAt s.regs) hj
    rw [hat, dataAt, filtAt] at hlo
    omega
  · exact filterByte_of_other_row (unfiltered_onlyBytes ft s) rfl (by rw [dataAt, filtAt]; omega)
      (by rw [dataAt, filtAt]; omega) hj

/-- The scanline written: the filter byte, then the residuals. -/
theorem filtered_scanline : filterByte (filtered ftByte ft s) (s.regs.feLeft.toNat - 1) = ftByte ∧
    slbRow (filtered ftByte ft s) (s.regs.feLeft.toNat - 1) = filterRow ft s.regs.stride.toNat
      (slbRowAbove s (s.regs.feLeft.toNat - 1)) (slbRow s (s.regs.feLeft.toNat - 1)) := by
  have hread := memRead_memWrite_same s .slb (filtAt s.regs (s.regs.feLeft.toNat - 1))
    (ftByte :: filterRow ft s.regs.stride.toNat (slbRowAbove s (s.regs.feLeft.toNat - 1))
      (slbRow s (s.regs.feLeft.toNat - 1)))
  rw [List.length_cons, filterRow_length, slbRow_length, memRead_succ] at hread
  exact List.cons_eq_cons.1 hread

theorem slbRow_filtered_other (hj : j ≠ s.regs.feLeft.toNat - 1) : slbRow (filtered ftByte ft s) j = slbRow s j :=
  slbRow_of_other_row (filtered_onlyBytes ftByte ft s) rfl le_rfl le_rfl hj

theorem filterByte_filtered_other (hj : j ≠ s.regs.feLeft.toNat - 1) :
    filterByte (filtered ftByte ft s) j = filterByte s j :=
  filterByte_of_other_row (filtered_onlyBytes ftByte ft s) rfl le_rfl le_rfl hj

end

/-! ## Filtering every row -/

/-- What filtering the rows below `fts.length` leaves, the first filter for the last row: residuals of the raw rows and
their filter bytes below, everything as it was from there on. -/
structure RowsFiltered (fts : List Byte) (s u : State) : Prop where
  regs : u.regs = { s.regs with feLeft := 0#32 }
  row : ∀ i < fts.length, ∃ ft, filterTypeOf (filterByte u i) = some ft ∧
    slbRow u i = filterRow ft s.regs.stride.toNat (slbRowAbove s i) (slbRow s i)
  filterByte : ∀ i < fts.length, filterByte u i = fts.getD (fts.length - 1 - i) 0#8
  otherRow : ∀ i, fts.length ≤ i → slbRow u i = slbRow s i
  otherByte : ∀ i, fts.length ≤ i → Machine.filterByte u i = Machine.filterByte s i

/-- One row more, filtered first: the rows below it are still raw when it is, and the rest never touches it. -/
theorem RowsFiltered.cons {ftByte : Byte} {ft : FilterType} {fts : List Byte} {s u : State}
    (hft : filterTypeOf ftByte = some ft) (hleft : s.regs.feLeft.toNat = fts.length + 1)
    (h : RowsFiltered fts (filtered ftByte ft s) u) : RowsFiltered (ftByte :: fts) s u := by
  have hlast : s.regs.feLeft.toNat - 1 = fts.length := by omega
  have hraw (i : Nat) (hi : i < fts.length) : slbRow (filtered ftByte ft s) i = slbRow s i :=
    slbRow_filtered_other ftByte ft s (by omega)
  have hbyte : Machine.filterByte u fts.length = ftByte := by
    rw [h.otherByte _ le_rfl, ← hlast, (filtered_scanline ftByte ft s).1]
  refine ⟨h.regs, fun i hi => ?_, fun i hi => ?_, fun i hi => ?_, fun i hi => ?_⟩
  · rcases Nat.lt_succ_iff_lt_or_eq.1 hi with hi | rfl
    · obtain ⟨ft', hft', hrow⟩ := h.row i hi
      refine ⟨ft', hft', ?_⟩
      rw [hrow, hraw i hi, slbRowAbove_congr fun j hj => hraw j (hj.trans hi), filtered_regs]
    · refine ⟨ft, by rwa [hbyte], ?_⟩
      rw [h.otherRow _ le_rfl, ← hlast, (filtered_scanline ftByte ft s).2]
  · rcases Nat.lt_succ_iff_lt_or_eq.1 hi with hi | rfl
    · rw [h.filterByte i hi, List.length_cons, show fts.length + 1 - 1 - i = fts.length - 1 - i + 1 by omega,
        List.getD_cons_succ]
    · simpa using hbyte
  · rw [List.length_cons] at hi
    rw [h.otherRow i (by omega), slbRow_filtered_other ftByte ft s (by omega)]
  · rw [List.length_cons] at hi
    rw [h.otherByte i (by omega), filterByte_filtered_other ftByte ft s (by omega)]

/-- As many FILTER_ROW commands as rows are left, of any types (R208). -/
theorem execAll_filterRow {fts : List Byte} (hfts : ∀ b ∈ fts, b.toNat ≤ 4) {s : State}
    (herr : s.regs.status.err = false) (hcfg : s.regs.status.cfg = true) (hleft : s.regs.feLeft.toNat = fts.length) :
    ∃ u, execAll (fts.map .filterRow) s = .next u ∧ RowsFiltered fts s u := by
  induction fts generalizing s with
  | nil =>
    have hzero : s.regs.feLeft = 0#32 := BitVec.eq_of_toNat_eq hleft
    exact ⟨s, rfl, by rw [← hzero], fun _ hi => (nomatch hi), fun _ hi => (nomatch hi), fun _ _ => rfl, fun _ _ => rfl⟩
  | cons b fts ih =>
    obtain ⟨hb, hrest⟩ := List.forall_mem_cons.1 hfts
    rw [List.length_cons] at hleft
    obtain ⟨ft, hft⟩ := filterTypeOf_of_le hb
    have hexec : exec (.filterRow b) s = .next (filtered b ft s) :=
      exec_filterRow_of_left herr hft hcfg (by omega)
    obtain ⟨u, hall, hu⟩ := ih hrest (s := filtered b ft s) herr hcfg (by rw [filtered_feLeft_toNat]; omega)
    exact ⟨u, (execAll_cons_next hexec).trans hall, hu.cons hft hleft⟩

/-! ## Reconstructing every row -/

/-- Reconstruction of the filtered `u` with n rows to go: the rows done are those of `s`, the others those of `u`. -/
structure RowsRestored (s u : State) (n : Nat) (v : State) : Prop where
  regs : v.regs = { u.regs with ufRow := v.regs.ufRow }
  left : v.regs.ufRow.toNat + n = u.regs.height.toNat
  filterByte : ∀ j, filterByte v j = filterByte u j
  done : ∀ j < v.regs.ufRow.toNat, slbRow v j = slbRow s j
  todo : ∀ j, v.regs.ufRow.toNat ≤ j → slbRow v j = slbRow u j

section
variable {fts : List Byte} {s u v : State} {n : Nat} (hu : RowsFiltered fts s u)
  (hlen : fts.length = s.regs.height.toNat) (herr : s.regs.status.err = false) (hcfg : s.regs.status.cfg = true)
  (hstride : 1 ≤ s.regs.stride.toNat)
include hu hlen herr hcfg hstride

/-- The next row's residuals, reconstructed below a row that is raw again, are the raw row. -/
theorem RowsRestored.next (hv : RowsRestored s u (n + 1) v) :
    ∃ w, unfilterNext v = .ok () w ∧ exec .unfilterRow v = .next w ∧ RowsRestored s u n w := by
  obtain ⟨hregs, hleft, hbytes, hdone, htodo⟩ := hv
  have hheight : u.regs.height = s.regs.height := by rw [hu.regs]
  have hstatus : v.regs.status = s.regs.status := by rw [hregs, hu.regs]
  have hlt : v.regs.ufRow.toNat < s.regs.height.toNat := by rw [← hheight]; omega
  obtain ⟨ft, hft, hfiltered⟩ := hu.row v.regs.ufRow.toNat (hlen ▸ hlt)
  rw [← hbytes] at hft
  have hraw : slbRow (unfiltered ft v) v.regs.ufRow.toNat = slbRow s v.regs.ufRow.toNat := by
    have hs : v.regs.stride = s.regs.stride := by rw [hregs, hu.regs]
    rw [slbRow_unfiltered_same, htodo _ le_rfl, hfiltered, slbRowAbove_congr hdone, hs, unfilterRow_filterRow hstride]
  have hnext : (unfiltered ft v).regs.ufRow.toNat = v.regs.ufRow.toNat + 1 := toNat_add_one_of_lt hlt
  refine ⟨unfiltered ft v, unfilterNext_of_known hft,
    exec_unfilterRow_of_known (hstatus ▸ herr) (hstatus ▸ hcfg) (by rwa [hregs, hu.regs]) hft, ?_, by omega,
    fun j => ?_, fun j hj => ?_, fun j hj => ?_⟩
  · rw [unfiltered_regs, hregs]
  · rw [filterByte_unfiltered, hbytes]
  · rw [hnext] at hj
    rcases Nat.lt_succ_iff_lt_or_eq.1 hj with hj | rfl
    · rw [slbRow_unfiltered_other ft v hj.ne, hdone j hj]
    · exact hraw
  · rw [hnext] at hj
    rw [slbRow_unfiltered_other ft v (by omega), htodo j (by omega)]

/-- UNFILTER_ALL after every row is filtered (R206): no filter byte is unknown, and the data bytes are back. -/
theorem exec_unfilterAll_of_filtered (hstart : s.regs.ufRow = 0#32) :
    ∃ t, exec .unfilterAll u = .next t ∧ RowsRestored s u 0 t := by
  have hstatus : u.regs.status = s.regs.status := by rw [hu.regs]
  have hrow : u.regs.ufRow.toNat = 0 := by rw [hu.regs, hstart]; rfl
  have hbegin : RowsRestored s u (u.regs.height.toNat - u.regs.ufRow.toNat) u :=
    ⟨rfl, by omega, fun _ => rfl, fun j hj => absurd hj (by omega), fun _ _ => rfl⟩
  obtain ⟨t, hloop, -, ht⟩ := repeatRows_eq_execAll (P := RowsRestored s u)
    (fun _ _ => RowsRestored.next hu hlen herr hcfg hstride) hbegin
  refine ⟨t, ?_, ht⟩
  rw [exec_unfilterAll_ready (hstatus ▸ herr), unfilterAll_of_configured (hstatus ▸ hcfg), hloop, settle_ok]

end

/-! ## The inverse law (R210) -/

/-- STATUS, filter bytes and data bytes after all rows are filtered with the types `fts`, the first for the last row,
and reconstructed. -/
structure Roundtripped (fts : List Byte) (s t : State) : Prop where
  status : t.regs.status = s.regs.status
  filterByte : ∀ i < s.regs.height.toNat, readByte t .slb (i * (s.regs.pitch.toNat + 1)) =
    fts.getD (s.regs.height.toNat - 1 - i) 0#8
  data : ∀ i < s.regs.height.toNat, ∀ x < s.regs.pitch.toNat,
    readByte t .slb (i * (s.regs.pitch.toNat + 1) + 1 + x) = readByte s .slb (i * (s.regs.pitch.toNat + 1) + 1 + x)

/-- Bytes of equal rows. -/
theorem readByte_of_slbRow_eq {s t : State} {i x : Nat} (h : slbRow t i = slbRow s i)
    (hpitch : t.regs.pitch = s.regs.pitch) (hx : x < s.regs.pitch.toNat) :
    readByte t .slb (dataAt s.regs i 0 + x) = readByte s .slb (dataAt s.regs i 0 + x) := by
  rw [slbRow, slbRow, dataAt, hpitch] at h
  rw [← memRead_getD _ _ _ _ _ hx, ← memRead_getD _ _ _ _ _ hx]
  exact congrArg (·.getD x 0#8) h

theorem RowsRestored.roundtripped {fts : List Byte} {s u t : State} (hu : RowsFiltered fts s u)
    (hlen : fts.length = s.regs.height.toNat) (ht : RowsRestored s u 0 t) : Roundtripped fts s t := by
  have hpitch : t.regs.pitch = s.regs.pitch := by rw [ht.regs, hu.regs]
  have hend : t.regs.ufRow.toNat = s.regs.height.toNat := by rw [← Nat.add_zero t.regs.ufRow.toNat, ht.left, hu.regs]
  refine ⟨by rw [ht.regs, hu.regs], fun i hi => ?_, fun i hi x hx => ?_⟩
  · have hbyte : Machine.filterByte t i = fts.getD (fts.length - 1 - i) 0#8 :=
      (ht.filterByte i).trans (hu.filterByte i (hlen ▸ hi))
    rwa [Machine.filterByte, filtAt, hpitch, hlen] at hbyte
  · exact readByte_of_slbRow_eq (ht.done i (hend ▸ hi)) hpitch hx

theorem execAll_filterRow_unfilterAll {fts : List Byte} {s : State} (hinv : s.Inv) (herr : s.regs.status.err = false)
    (hcfg : s.regs.status.cfg = true) (hleft : s.regs.feLeft = s.regs.height) (hstart : s.regs.ufRow = 0#32)
    (hlen : fts.length = s.regs.height.toNat) (hfts : ∀ b ∈ fts, b.toNat ≤ 4) :
    ∃ u t, execAll (fts.map .filterRow) s = .next u ∧ exec .unfilterAll u = .next t ∧ Roundtripped fts s t := by
  obtain ⟨u, hfilter, hu⟩ := execAll_filterRow hfts herr hcfg (by rw [hleft, hlen])
  obtain ⟨t, hunfilter, ht⟩ :=
    exec_unfilterAll_of_filtered hu hlen herr hcfg (configured_stride (hinv.configured hcfg)) hstart
  exact ⟨u, t, hfilter, hunfilter, ht.roundtripped hu hlen⟩

/-- Settles O40: FILTER_ALL is the case of HEIGHT equal types. -/
theorem filterThenUnfilterRestores : Obligations.FilterThenUnfilterRestores := by
  intro s hinv herr hcfg hleft hstart
  refine ⟨fun b hb => ?_, fun fts hlen hfts => ?_⟩
  · obtain ⟨u, t, hrows, hunfilter, ht⟩ := execAll_filterRow_unfilterAll
      (fts := List.replicate s.regs.height.toNat b) hinv herr hcfg hleft hstart List.length_replicate
      fun b' hb' => (List.eq_of_mem_replicate hb') ▸ hb
    obtain ⟨ft, hft⟩ := filterTypeOf_of_le hb
    obtain ⟨u', hall, hrows', -⟩ := exec_filterAll_eq_execAll herr hft hcfg
    rw [List.map_replicate, ← hleft, hrows'] at hrows
    cases hrows
    refine ⟨t, (execAll_cons_next hall).trans (execAll_cons_next hunfilter), ht.status, fun i hi => ⟨?_, ht.data i hi⟩⟩
    rw [ht.filterByte i hi, List.getD_replicate]
    omega
  · obtain ⟨u, t, hrows, hunfilter, ht⟩ := execAll_filterRow_unfilterAll hinv herr hcfg hleft hstart hlen hfts
    exact ⟨t, (execAll_append_next hrows).trans (execAll_cons_next hunfilter), ht.status,
      fun i hi => ⟨ht.filterByte i hi, ht.data i hi⟩⟩

end Sys2Proof.Machine
end

section
/-! PROOFS. The frame of the four row commands (43_filter.md R205, R208, 44_bitdepth.md R241, R244): one row of one
buffer, STATUS and the unit's own counter. -/

set_option autoImplicit false

namespace Sys2Proof.Machine

/-- Of the buffers only the n bytes at offset a of `sp` may differ; the registers are those of `s`, `withCounter` having
put a value in the unit's counter, but for STATUS. -/
structure StoresOneRow (s : State) (sp : Space) (a n : Nat) (withCounter : Word → Regs) (t : State) : Prop where
  bytes : OnlyBytes s t sp a n
  regs : ∃ v st, t.regs = { withCounter v with status := st }

section
variable {s t : State} {sp : Space} {a n : Nat} {withCounter : Word → Regs} {v : Word} (hself : s.regs = withCounter v)
include hself

theorem StoresOneRow.refl : StoresOneRow s sp a n withCounter s := ⟨fun _ _ _ => rfl, v, s.regs.status, by rw [← hself]⟩

/-- A row command: CFG, a row left, the row. -/
theorem rowCommand_storesOneRow {left : State → Bool} {body : State → Result Unit}
    (hb : s.regs.status.cfg = true → (body s).Ends (StoresOneRow s sp a n withCounter)) :
    ((require s.regs.status.cfg .sequenceError s).andThen fun _ s =>
      (require (left s) .sequenceError s).andThen fun _ s => body s).Ends (StoresOneRow s sp a n withCounter) :=
  ends_require_andThen (.refl hself) fun hcfg => ends_require_andThen (.refl hself) fun _ => hb hcfg

/-- Error entry changes STATUS, hanging no register (60_exceptions.md R275). -/
theorem runCommand_storesOneRow {op : Byte} {body : State → Result Unit} (hx : runCommand op body s = .next t)
    (hb : (body s).Ends (StoresOneRow s sp a n withCounter)) : StoresOneRow s sp a n withCounter t :=
  runCommand_keeps hx (.refl hself) hb
    (fun u e ⟨hbytes, v, st, hregs⟩ => ⟨hbytes, v, statusError op e st, by rw [errorState, hregs]; rfl⟩)
    fun _ _ hu => ⟨hu.bytes, hu.regs⟩

end

section
variable (s : State)

theorem unfilterNext_storesOneRow : (unfilterNext s).Ends (StoresOneRow s .slb (dataAt s.regs s.regs.ufRow.toNat 0)
    s.regs.pitch.toNat fun v => { s.regs with ufRow := v }) := by
  rcases unfilterNext_cases s with ⟨-, he⟩ | ⟨ft, -, he⟩ <;> rw [he]
  · exact ⟨.refl rfl, by decide⟩
  · exact ⟨unfiltered_onlyBytes ft s, s.regs.ufRow + 1#32, s.regs.status, rfl⟩

theorem filterNext_storesOneRow (ftByte : Byte) (ft : FilterType) : (filterNext ftByte ft s).Ends (StoresOneRow s .slb
    (filtAt s.regs (s.regs.feLeft.toNat - 1)) (s.regs.pitch.toNat + 1) fun v => { s.regs with feLeft := v }) := by
  rw [filterNext_eq_filtered]
  exact ⟨filtered_onlyBytes ftByte ft s, BitVec.ofNat 32 (s.regs.feLeft.toNat - 1), s.regs.status, rfl⟩

variable {s} (hconf : Configured s.regs s.params)
include hconf

theorem packNext_storesOneRow : (packNext s).Ends (StoresOneRow s .slb (filtAt s.regs s.regs.pkRow.toNat)
    (s.regs.pitch.toNat + 1) fun v => { s.regs with pkRow := v }) := by
  have hlen := packRow_length hconf (pixRow s s.regs.pkRow.toNat) (pixRow_length s _)
  rcases packNext_cases s with ⟨-, he⟩ | ⟨-, he⟩ <;> rw [he]
  · exact ⟨.refl rfl, by decide⟩
  · exact ⟨memWrite_onlyBytes (congrArg (· + 1) hlen), s.regs.pkRow + 1#32, s.regs.status, rfl⟩

theorem unpackNext_storesOneRow : (unpackNext s).Ends (StoresOneRow s .pix (pixAt s.regs s.regs.upRow.toNat 0)
    (samplesPerRow s.regs) fun v => { s.regs with upRow := v }) := by
  have hlen := unpackRow_length hconf (slbRow s s.regs.upRow.toNat) (slbRow_length s _)
  rw [unpackNext_eq]
  exact ⟨memWrite_onlyBytes (s := s) hlen, s.regs.upRow + 1#32, s.regs.status, rfl⟩

end

/-- FILTER_ROW, whose operand may name no filter. -/
theorem filterRow_storesOneRow (s : State) (ftByte : Byte) : (withFilterType ftByte (filterOne ftByte) s).Ends
    (StoresOneRow s .slb (filtAt s.regs (s.regs.feLeft.toNat - 1)) (s.regs.pitch.toNat + 1)
      fun v => { s.regs with feLeft := v }) := by
  unfold withFilterType
  split
  · exact ⟨.refl rfl, by decide⟩
  · exact rowCommand_storesOneRow rfl fun _ => filterNext_storesOneRow s ftByte _

/-- Settles O50: each command's row, and the counter that its unit advances. -/
theorem rowCommandsStoreOneRow : Obligations.RowCommandsStoreOneRow := by
  refine fun s t hinv => ⟨fun hx => ?_, fun ft hx => ?_, fun hx => ?_, fun hx => ?_⟩
  · obtain ⟨hbytes, v, st, hregs⟩ := runCommand_storesOneRow rfl hx
      (rowCommand_storesOneRow rfl fun _ => unfilterNext_storesOneRow s)
    exact ⟨hbytes, by rw [hregs]⟩
  · obtain ⟨hbytes, v, st, hregs⟩ := runCommand_storesOneRow rfl hx (filterRow_storesOneRow s ft)
    exact ⟨hbytes, by rw [hregs]⟩
  · obtain ⟨hbytes, v, st, hregs⟩ := runCommand_storesOneRow rfl hx
      (rowCommand_storesOneRow rfl fun hcfg => packNext_storesOneRow (hinv.configured hcfg))
    exact ⟨hbytes, by rw [hregs]⟩
  · obtain ⟨hbytes, v, st, hregs⟩ := runCommand_storesOneRow rfl hx
      (rowCommand_storesOneRow rfl fun hcfg => unpackNext_storesOneRow (hinv.configured hcfg))
    exact ⟨hbytes, by rw [hregs]⟩

end Sys2Proof.Machine
end

section
/-! PROOFS. The bit-depth functions of one row (44_bitdepth.md R240, R243): a packed row is a sequence of bits, of which
each sample is a group of D. What unpackRow and packRow do to one bit is said once, and the inverse laws (R246) follow
bit by bit. -/

set_option autoImplicit false

namespace Sys2Proof.Machine

/-! ## The bits of a packed row (R240) -/

/-- Bit p of a packed row, counted from the most significant bit of its first byte. -/
def rowBit (row : List Byte) (p : Nat) : Bool := (row.getD (p / 8) 0#8).getLsbD (7 - p % 8)

/-- Bit k of byte j is bit 8·j + 7 − k of the row. -/
theorem rowBit_of_byte (row : List Byte) (j : Nat) {k : Nat} (hk : k < 8) :
    rowBit row (8 * j + 7 - k) = (row.getD j 0#8).getLsbD k := by
  rw [rowBit, show (8 * j + 7 - k) / 8 = j by omega, show 7 - (8 * j + 7 - k) % 8 = k by omega]

/-- A value of D bits has no bit from D on. -/
theorem getLsbD_of_le_maxSample {d i : Nat} {v : Byte} (hv : v.toNat ≤ 2 ^ d - 1) (hi : d ≤ i) :
    v.getLsbD i = false := by
  have hpos := Nat.two_pow_pos d
  have hle : 2 ^ d ≤ 2 ^ i := Nat.pow_le_pow_right Nat.two_pos hi
  exact Nat.testBit_lt_two_pow (by omega)

/-- A sample past the end of a row is 0, so it is in range too. -/
theorem getD_le_of_forall_le {m : Nat} {samples : List Byte} (hs : ∀ v ∈ samples, v.toNat ≤ m) (k : Nat) :
    (samples.getD k 0#8).toNat ≤ m := by
  rcases Nat.lt_or_ge k samples.length with hk | hk
  · rw [List.getD_eq_getElem _ _ hk]
    exact hs _ (List.getElem_mem hk)
  · rw [List.getD_eq_default _ _ hk]
    exact Nat.zero_le m

section
variable {d : Nat} (hd : d = 1 ∨ d = 2 ∨ d = 4)
include hd

/-- No group of D bits crosses a byte: bit i of sample k, from its least significant bit, lies in byte k·D div 8. -/
theorem sampleBit_place {i : Nat} (hi : i < d) (k : Nat) :
    (k * d + (d - 1 - i)) / 8 = k * d / 8 ∧ 7 - (k * d + (d - 1 - i)) % 8 = sampleShift d k + i := by
  rw [sampleShift]
  rcases hd with rfl | rfl | rfl <;> omega

/-! ## Unpacked samples (R240) -/

theorem maxSample_toNat : (BitVec.ofNat 8 (maxSample d)).toNat = 2 ^ d - 1 := by
  rcases hd with rfl | rfl | rfl <;> rfl

theorem sampleAt_toNat (row : List Byte) (k : Nat) :
    (sampleAt d row k).toNat = (row.getD (k * d / 8) 0#8).toNat / 2 ^ (8 - d - k * d % 8) % 2 ^ d := by
  rw [sampleAt, BitVec.toNat_and, maxSample_toNat hd, Nat.and_two_pow_sub_one_eq_mod, BitVec.toNat_ushiftRight,
    Nat.shiftRight_eq_div_pow, sampleShift]

theorem sampleAt_le (row : List Byte) (k : Nat) : (sampleAt d row k).toNat ≤ 2 ^ d - 1 := by
  rw [sampleAt_toNat hd]
  exact Nat.le_sub_one_of_lt (Nat.mod_lt _ (Nat.two_pow_pos d))

/-- Bit i of sample k is the i-th bit from the end of its group. -/
theorem sampleAt_getLsbD (row : List Byte) (k : Nat) {i : Nat} (hi : i < d) :
    (sampleAt d row k).getLsbD i = rowBit row (k * d + (d - 1 - i)) := by
  obtain ⟨hbyte, hbit⟩ := sampleBit_place hd hi k
  have hmask : (BitVec.ofNat 8 (maxSample d)).getLsbD i = true := by
    rw [BitVec.getLsbD, maxSample_toNat hd, Nat.testBit_two_pow_sub_one, decide_eq_true hi]
  rw [sampleAt, BitVec.getLsbD_and, hmask, Bool.and_true, BitVec.getLsbD_ushiftRight, rowBit, hbyte, hbit]

theorem unpackRow_shallow (n : Nat) (row : List Byte) : unpackRow d n row = (List.range n).map (sampleAt d row) :=
  if_neg (by omega)

theorem unpackRow_getD (row : List Byte) {n k : Nat} (hk : k < n) :
    (unpackRow d n row).getD k 0#8 = sampleAt d row k := by
  simp [unpackRow_shallow hd, hk]

theorem unpackRow_le (n : Nat) (row : List Byte) : ∀ v ∈ unpackRow d n row, v.toNat ≤ 2 ^ d - 1 := by
  rw [unpackRow_shallow hd]
  rintro _ hv
  obtain ⟨k, -, rfl⟩ := List.mem_map.1 hv
  exact sampleAt_le hd row k

/-! ## Packed rows (R243) -/

/-- A sample in range, shifted to its place, sets bits of its own group only. -/
theorem shiftedSample_getLsbD {v : Byte} (hv : v.toNat ≤ 2 ^ d - 1) {p k : Nat} (hbyte : p / 8 = k * d / 8) :
    (v <<< sampleShift d k).getLsbD (7 - p % 8) = (decide (p / d = k) && v.getLsbD (d - 1 - p % d)) := by
  rw [BitVec.getLsbD_shiftLeft, decide_eq_true (by omega : 7 - p % 8 < 8), Bool.true_and, sampleShift]
  by_cases hk : p / d = k
  · have hplace : ¬ 7 - p % 8 < 8 - d - k * d % 8 ∧ 7 - p % 8 - (8 - d - k * d % 8) = d - 1 - p % d := by
      rcases hd with rfl | rfl | rfl <;> omega
    rw [hplace.2, decide_eq_false hplace.1, decide_eq_true hk, Bool.not_false]
  · have hplace : 7 - p % 8 < 8 - d - k * d % 8 ∨ d ≤ 7 - p % 8 - (8 - d - k * d % 8) := by
      rcases hd with rfl | rfl | rfl <;> omega
    rw [decide_eq_false hk, Bool.false_and]
    rcases hplace with hlow | hhigh
    · rw [decide_eq_true hlow, Bool.not_true, Bool.false_and]
    · rw [getLsbD_of_le_maxSample hv hhigh, Bool.and_false]

/-- One turn of packRow's loop adds the bits of its sample. -/
theorem packSample_rowBit {samples : List Byte} (hs : ∀ v ∈ samples, v.toNat ≤ 2 ^ d - 1) (out : List Byte) (k : Nat)
    {p : Nat} (hp : p / 8 < out.length) : rowBit (packSample d samples out k) p =
      (rowBit out p || (decide (p / d = k) && (samples.getD k 0#8).getLsbD (d - 1 - p % d))) := by
  by_cases hbyte : p / 8 = k * d / 8
  · have hset : (packSample d samples out k).getD (p / 8) 0#8 =
        out.getD (p / 8) 0#8 ||| samples.getD k 0#8 <<< sampleShift d k := by
      rw [packSample, ← hbyte, List.getD_eq_getElem _ _ (by rwa [List.length_set]), List.getElem_set_self]
    rw [rowBit, hset, BitVec.getLsbD_or, shiftedSample_getLsbD hd (getD_le_of_forall_le hs k) hbyte, rowBit]
  · have hk : p / d ≠ k := by
      rintro rfl
      rcases hd with rfl | rfl | rfl <;> omega
    have hkept : (packSample d samples out k).getD (p / 8) 0#8 = out.getD (p / 8) 0#8 := by
      simp [packSample, List.getElem?_set_ne (Ne.symm hbyte)]
    rw [rowBit, hkept, decide_eq_false hk, Bool.false_and, Bool.or_false, rowBit]

/-- Bit p of a packed row belongs to sample p div D; the padding bits are 0. -/
theorem packRow_rowBit {samples : List Byte} (hs : ∀ v ∈ samples, v.toNat ≤ 2 ^ d - 1) (pitch n : Nat) {p : Nat}
    (hp : p / 8 < pitch) : rowBit (packRow d pitch n samples) p =
      (decide (p / d < n) && (samples.getD (p / d) 0#8).getLsbD (d - 1 - p % d)) := by
  rw [packRow, if_neg (by omega)]
  induction n with
  | zero => simp [rowBit, hp]
  | succ n ih =>
    rw [List.range_succ, List.foldl_append, List.foldl_cons, List.foldl_nil,
      packSample_rowBit hd hs _ n (by rwa [packSamples_length, List.length_replicate]), ih]
    by_cases hn : p / d = n
    · simp [hn]
    · have hlt : p / d < n + 1 ↔ p / d < n := by omega
      simp [hn, hlt]

/-! ## The inverse laws below depth 8 (R246) -/

theorem unpackRow_packRow_shallow {samples : List Byte} (hs : ∀ v ∈ samples, v.toNat ≤ 2 ^ d - 1) {n : Nat}
    (hn : samples.length = n) : unpackRow d n (packRow d ((n * d + 7) / 8) n samples) = samples := by
  refine List.ext_getElem ((unpackRow_length_shallow (by omega) _ _).trans hn.symm) fun k hk hk' => ?_
  rw [← List.getD_eq_getElem _ 0#8 hk, ← List.getD_eq_getElem _ 0#8 hk', unpackRow_getD hd _ (hn ▸ hk')]
  refine BitVec.eq_of_getLsbD_eq fun i _ => ?_
  rcases Nat.lt_or_ge i d with hi | hi
  · have hplace : (k * d + (d - 1 - i)) / 8 < (n * d + 7) / 8 ∧ (k * d + (d - 1 - i)) / d = k ∧
        d - 1 - (k * d + (d - 1 - i)) % d = i := by
      have hkn : k < n := hn ▸ hk'
      rcases hd with rfl | rfl | rfl <;> omega
    obtain ⟨hbyte, hsample, hbit⟩ := hplace
    rw [sampleAt_getLsbD hd _ _ hi, packRow_rowBit hd hs _ _ hbyte, hsample, hbit, decide_eq_true (hn ▸ hk'),
      Bool.true_and]
  · rw [getLsbD_of_le_maxSample (sampleAt_le hd _ _) hi, getLsbD_of_le_maxSample (getD_le_of_forall_le hs k) hi]

theorem packRow_unpackRow_rowBit (row : List Byte) (n : Nat) {p : Nat} (hp : p / 8 < row.length) :
    rowBit (packRow d row.length n (unpackRow d n row)) p = (rowBit row p && decide (p < n * d)) := by
  have hdpos : 0 < d := by omega
  have hplace : p / d * d + (d - 1 - (d - 1 - p % d)) = p := by
    have hmod := Nat.mod_lt p hdpos
    rw [show d - 1 - (d - 1 - p % d) = p % d by omega, Nat.div_add_mod']
  rw [packRow_rowBit hd (unpackRow_le hd n row) _ _ hp, ← decide_eq_decide.2 (Nat.div_lt_iff_lt_mul hdpos),
    Bool.and_comm]
  by_cases hk : p / d < n
  · rw [unpackRow_getD hd row hk, sampleAt_getLsbD hd row _ (by omega), hplace]
  · rw [decide_eq_false hk, Bool.and_false, Bool.and_false]

end

/-! ## The inverse laws at every depth (R246) -/

section
variable {d n : Nat} (hd : d = 1 ∨ d = 2 ∨ d = 4 ∨ d = 8)
include hd

theorem shallow_or_eight : (d = 1 ∨ d = 2 ∨ d = 4) ∨ d = 8 := by
  omega

/-- A row of n samples packs into ceil(n·D / 8) bytes. -/
theorem packRow_length_of_samples {samples : List Byte} (hn : samples.length = n) :
    (packRow d ((n * d + 7) / 8) n samples).length = (n * d + 7) / 8 := by
  rcases shallow_or_eight hd with hd | rfl
  · exact packRow_length_shallow (by omega) _ _ _
  · rw [packRow, if_pos rfl, List.length_take, hn]
    omega

theorem unpackRow_packRow {samples : List Byte} (hs : ∀ v ∈ samples, v.toNat ≤ 2 ^ d - 1) (hn : samples.length = n) :
    unpackRow d n (packRow d ((n * d + 7) / 8) n samples) = samples := by
  rcases shallow_or_eight hd with hd | rfl
  · exact unpackRow_packRow_shallow hd hs hn
  · rw [unpackRow, if_pos rfl, packRow, if_pos rfl, List.take_take, Nat.min_self, List.take_of_length_le hn.le]

/-- Of a row packed again the padding bits, at or beyond n·D, are cleared. -/
theorem packRow_unpackRow_getLsbD {row : List Byte} (hrow : row.length = (n * d + 7) / 8) {j k : Nat}
    (hj : j < row.length) (hk : k < 8) : ((packRow d row.length n (unpackRow d n row)).getD j 0#8).getLsbD k =
      ((row.getD j 0#8).getLsbD k && decide (8 * j + 7 - k < n * d)) := by
  rcases shallow_or_eight hd with hd | rfl
  · rw [← rowBit_of_byte _ j hk, packRow_unpackRow_rowBit hd row n (by omega), rowBit_of_byte row j hk]
  · have hn : row.length = n := by omega
    have hall : decide (8 * j + 7 - k < n * 8) = true := decide_eq_true (by omega)
    rw [hall, Bool.and_true, packRow, if_pos rfl, unpackRow, if_pos rfl, List.take_take, Nat.min_self,
      List.take_of_length_le hn.le]

end

/-- Settles O41: the mask and the shift of a sample as a remainder and a quotient. -/
theorem unpackedSamples : Obligations.UnpackedSamples := by
  refine ⟨fun d n k row hd hk => ⟨unpackRow_length_shallow (by omega) n row, ?_⟩, fun n row hn => ?_⟩
  · rw [unpackRow_getD hd row hk, sampleAt_toNat hd]
  · rw [unpackRow, if_pos rfl, List.take_of_length_le hn.le]

/-- Settles O42: bit by bit below depth 8, by copying at depth 8. -/
theorem packAndUnpackAreInverse : Obligations.PackAndUnpackAreInverse :=
  fun _ _ hd => ⟨fun _ hn hs => ⟨packRow_length_of_samples hd hn, unpackRow_packRow hd hs hn⟩,
    fun _ hrow _ hj _ hk => packRow_unpackRow_getLsbD hd hrow hj hk⟩

end Sys2Proof.Machine
end

section
/-! PROOFS. The commands of the bit-depth units (44_bitdepth.md R241, R242, R244, R245): one row unpacked or packed, and
the commands over all the rows left as so many row commands. -/

set_option autoImplicit false

namespace Sys2Proof.Machine

/-! ## UNPACK_ROW (R241) -/

/-- The state after row UP_ROW is unpacked. -/
def unpacked (s : State) : State :=
  setUpRow (s.regs.upRow + 1#32) (memWrite s .pix (pixAt s.regs s.regs.upRow.toNat 0)
    (unpackRow s.regs.bitDepth.toNat (samplesPerRow s.regs) (slbRow s s.regs.upRow.toNat)))

@[simp] theorem unpacked_regs (s : State) : (unpacked s).regs = { s.regs with upRow := s.regs.upRow + 1#32 } := rfl

/-- UNPACK's body cannot fail. -/
theorem unpackNext_eq_unpacked (s : State) : unpackNext s = .ok () (unpacked s) := unpackNext_eq s

section
variable {s : State}

theorem unpackOne_of_left (hcfg : s.regs.status.cfg = true) (hrow : s.regs.upRow.toNat < s.regs.height.toNat) :
    unpackOne s = .ok () (unpacked s) :=
  rowCommand_of_left (left := fun s => s.regs.upRow.toNat < s.regs.height.toNat) hcfg (decide_eq_true hrow)

theorem unpackOne_of_none_left (h : s.regs.status.cfg = false ∨ s.regs.height.toNat ≤ s.regs.upRow.toNat) :
    unpackOne s = .raised .sequenceError s :=
  rowCommand_of_none_left (left := fun s => s.regs.upRow.toNat < s.regs.height.toNat)
    (h.imp_right fun hrow => decide_eq_false hrow.not_gt)

theorem exec_unpackRow_ready (h : s.regs.status.err = false) :
    exec .unpackRow s = .next (settle 0x40#8 (unpackOne s)) := runCommand_ready h 0x40#8 unpackOne

theorem exec_unpackRow_of_left (herr : s.regs.status.err = false) (hcfg : s.regs.status.cfg = true)
    (hrow : s.regs.upRow.toNat < s.regs.height.toNat) : exec .unpackRow s = .next (unpacked s) := by
  rw [exec_unpackRow_ready herr, unpackOne_of_left hcfg hrow, settle_ok]

end

/-- Settles O43: the two ends of UNPACK_ROW. -/
theorem unpackRowUnpacks : Obligations.UnpackRowUnpacks := by
  refine ⟨rfl, fun s herr => ⟨fun h => ?_, fun hcfg hrow => exec_unpackRow_of_left herr hcfg hrow⟩⟩
  rw [exec_unpackRow_ready herr, unpackOne_of_none_left h]
  rfl

/-! ## UNPACK_ALL (R242) -/

/-- Unpacking begun in `s` with n rows to go: of the registers UP_ROW alone has changed. -/
structure Unpacking (s : State) (n : Nat) (v : State) : Prop where
  regs : v.regs = { s.regs with upRow := v.regs.upRow }
  left : v.regs.upRow.toNat + n = s.regs.height.toNat

section
variable {s v : State} {n : Nat}

theorem Unpacking.start (h : s.regs.upRow.toNat ≤ s.regs.height.toNat) :
    Unpacking s (s.regs.height.toNat - s.regs.upRow.toNat) s := ⟨rfl, by omega⟩

/-- One more row: UNPACK_ROW does what the loop's body does. -/
theorem Unpacking.next (hv : Unpacking s (n + 1) v) (herr : s.regs.status.err = false)
    (hcfg : s.regs.status.cfg = true) : exec .unpackRow v = .next (unpacked v) ∧ Unpacking s n (unpacked v) := by
  obtain ⟨hregs, hleft⟩ := hv
  have hstatus : v.regs.status = s.regs.status := by rw [hregs]
  have hlt : v.regs.upRow.toNat < v.regs.height.toNat := by
    rw [show v.regs.height = s.regs.height by rw [hregs]]
    omega
  have hnext : (unpacked v).regs.upRow.toNat = v.regs.upRow.toNat + 1 := toNat_add_one_of_lt hlt
  exact ⟨exec_unpackRow_of_left (hstatus ▸ herr) (hstatus ▸ hcfg) hlt, by rw [unpacked_regs, hregs], by omega⟩

theorem exec_unpackAll_ready (h : s.regs.status.err = false) :
    exec .unpackAll s = .next (settle 0x41#8 (unpackAll s)) := runCommand_ready h 0x41#8 unpackAll

/-- UNPACK_ALL is an UNPACK_ROW for each row left, and ends with what each row, being unpacked, keeps. -/
theorem exec_unpackAll_eq_execAll (herr : s.regs.status.err = false) (hcfg : s.regs.status.cfg = true)
    (hup : s.regs.upRow.toNat ≤ s.regs.height.toNat) {P : State → Prop} (hstart : P s)
    (hrow : ∀ n v, Unpacking s (n + 1) v → P v → P (unpacked v)) : ∃ u, exec .unpackAll s = .next u ∧
      execAll (List.replicate (s.regs.height.toNat - s.regs.upRow.toNat) .unpackRow) s = .next u ∧
      Unpacking s 0 u ∧ P u := by
  obtain ⟨u, hloop, hall, hu⟩ := repeatRows_eq_execAll (P := fun n v => Unpacking s n v ∧ P v)
    (fun n v ⟨hv, hP⟩ =>
      have ⟨hexec, hw⟩ := hv.next herr hcfg
      ⟨unpacked v, unpackNext_eq_unpacked v, hexec, hw, hrow n v hv hP⟩)
    ⟨Unpacking.start hup, hstart⟩
  exact ⟨u, by rw [exec_unpackAll_ready herr, unpackAll, require_pos hcfg, andThen_ok, hloop, settle_ok], hall, hu⟩

end

/-- Settles O44: UNPACK_ALL's check of CFG, then its loop. -/
theorem unpackAllRepeatsUnpackRow : Obligations.UnpackAllRepeatsUnpackRow := by
  refine ⟨rfl, fun s herr => ⟨fun hcfg => ?_, fun hcfg hup => ?_⟩⟩
  · rw [exec_unpackAll_ready herr, unpackAll, require_neg hcfg]
    rfl
  · obtain ⟨u, hexec, hall, hu, -⟩ := exec_unpackAll_eq_execAll herr hcfg hup (P := fun _ => True) trivial
      fun _ _ _ _ => trivial
    exact ⟨u, hexec, hall, BitVec.eq_of_toNat_eq hu.left, by rw [hu.regs]⟩

/-! ## PACK_ROW (R244) -/

theorem samplesFit_eq_true_iff (d : Nat) (samples : List Byte) :
    samplesFit d samples = true ↔ (d < 8 → ∀ v ∈ samples, v.toNat ≤ 2 ^ d - 1) := by
  change _ ↔ (d < 8 → ∀ v ∈ samples, v.toNat ≤ maxSample d)
  by_cases hd : d < 8 <;> simp [samplesFit, hd]

theorem forall_mem_memRead {p : Byte → Prop} (s : State) (sp : Space) (a n : Nat) :
    (∀ v ∈ memRead s sp a n, p v) ↔ ∀ x < n, p (readByte s sp (a + x)) := by
  simp [memRead]

/-- The samples of a row of PIX that are in range fit. -/
theorem samplesFit_of_le {s : State} {i : Nat}
    (h : ∀ x < samplesPerRow s.regs, (readByte s .pix (pixAt s.regs i 0 + x)).toNat ≤ 2 ^ s.regs.bitDepth.toNat - 1) :
    samplesFit s.regs.bitDepth.toNat (pixRow s i) = true :=
  (samplesFit_eq_true_iff _ _).2 fun _ => (forall_mem_memRead s .pix _ _).2 h

/-- The state after row PK_ROW is packed. -/
def packed (s : State) : State :=
  setPkRow (s.regs.pkRow + 1#32) (memWrite s .slb (filtAt s.regs s.regs.pkRow.toNat)
    (0#8 :: packRow s.regs.bitDepth.toNat s.regs.pitch.toNat (samplesPerRow s.regs) (pixRow s s.regs.pkRow.toNat)))

@[simp] theorem packed_regs (s : State) : (packed s).regs = { s.regs with pkRow := s.regs.pkRow + 1#32 } := rfl

section
variable {s : State}

theorem packNext_of_fit (h : samplesFit s.regs.bitDepth.toNat (pixRow s s.regs.pkRow.toNat) = true) :
    packNext s = .ok () (packed s) := by
  rcases packNext_cases s with ⟨hbad, -⟩ | ⟨-, he⟩
  · simp [hbad] at h
  · exact he

theorem packNext_of_unfit (h : samplesFit s.regs.bitDepth.toNat (pixRow s s.regs.pkRow.toNat) = false) :
    packNext s = .raised .sampleRangeError s := by
  rcases packNext_cases s with ⟨-, he⟩ | ⟨hfit, -⟩
  · exact he
  · simp [hfit] at h

theorem packOne_of_left (hcfg : s.regs.status.cfg = true) (hrow : s.regs.pkRow.toNat < s.regs.height.toNat) :
    packOne s = packNext s :=
  rowCommand_of_left (left := fun s => s.regs.pkRow.toNat < s.regs.height.toNat) hcfg (decide_eq_true hrow)

theorem packOne_of_none_left (h : s.regs.status.cfg = false ∨ s.regs.height.toNat ≤ s.regs.pkRow.toNat) :
    packOne s = .raised .sequenceError s :=
  rowCommand_of_none_left (left := fun s => s.regs.pkRow.toNat < s.regs.height.toNat)
    (h.imp_right fun hrow => decide_eq_false hrow.not_gt)

theorem exec_packRow_ready (h : s.regs.status.err = false) :
    exec .packRow s = .next (settle 0x42#8 (packOne s)) := runCommand_ready h 0x42#8 packOne

theorem exec_packRow_of_fit (herr : s.regs.status.err = false) (hcfg : s.regs.status.cfg = true)
    (hrow : s.regs.pkRow.toNat < s.regs.height.toNat)
    (h : samplesFit s.regs.bitDepth.toNat (pixRow s s.regs.pkRow.toNat) = true) :
    exec .packRow s = .next (packed s) := by
  rw [exec_packRow_ready herr, packOne_of_left hcfg hrow, packNext_of_fit h, settle_ok]

end

/-- A sample above the largest does not fit. -/
theorem samplesFit_of_gt {d : Nat} {samples : List Byte} (hd : d < 8) (h : ∃ v ∈ samples, 2 ^ d - 1 < v.toNat) :
    samplesFit d samples = false := by
  obtain ⟨v, hv, hgt⟩ := h
  exact Bool.eq_false_iff.2 fun hfit => hgt.not_ge ((samplesFit_eq_true_iff _ _).1 hfit hd v hv)

/-- Settles O45: the three ends of PACK_ROW. -/
theorem packRowPacks : Obligations.PackRowPacks := by
  refine ⟨rfl, fun s herr => ⟨fun h => ?_, fun hcfg hrow => ⟨fun ⟨hd, hbad⟩ => ?_, fun hfit => ?_⟩⟩⟩
  · rw [exec_packRow_ready herr, packOne_of_none_left h]
    rfl
  · rw [exec_packRow_ready herr, packOne_of_left hcfg hrow, packNext_of_unfit (samplesFit_of_gt hd hbad)]
    rfl
  · exact exec_packRow_of_fit herr hcfg hrow ((samplesFit_eq_true_iff _ _).2 hfit)

/-! ## PACK_ALL (R245) -/

/-- The depth and the pitch that CONFIGURE leaves (40_control.md R124, R125): a packed row fills its scanline. -/
structure PackGeometry (r : Regs) : Prop where
  depth : r.bitDepth.toNat = 1 ∨ r.bitDepth.toNat = 2 ∨ r.bitDepth.toNat = 4 ∨ r.bitDepth.toNat = 8
  pitch : r.pitch.toNat = (samplesPerRow r * r.bitDepth.toNat + 7) / 8

theorem Configured.packGeometry {r : Regs} {p : Params} (h : Configured r p) : PackGeometry r :=
  ⟨(accepted_cases h.accepted).1, configured_pitch h⟩

section
variable {s : State} (hgeom : PackGeometry s.regs)
include hgeom

theorem packRow_length_pixRow (i : Nat) : (packRow s.regs.bitDepth.toNat s.regs.pitch.toNat (samplesPerRow s.regs)
    (pixRow s i)).length = s.regs.pitch.toNat := by
  rw [hgeom.pitch]
  exact packRow_length_of_samples hgeom.depth (pixRow_length s i)

theorem packed_onlyBytes :
    OnlyBytes s (packed s) .slb (filtAt s.regs s.regs.pkRow.toNat) (s.regs.pitch.toNat + 1) :=
  memWrite_onlyBytes (by rw [List.length_cons, packRow_length_pixRow hgeom])

/-- The data bytes written: the packed samples. -/
theorem slbRow_packed_same : slbRow (packed s) s.regs.pkRow.toNat = packRow s.regs.bitDepth.toNat s.regs.pitch.toNat
    (samplesPerRow s.regs) (pixRow s s.regs.pkRow.toNat) := by
  have hread := memRead_memWrite_same s .slb (filtAt s.regs s.regs.pkRow.toNat) (0#8 :: packRow s.regs.bitDepth.toNat
    s.regs.pitch.toNat (samplesPerRow s.regs) (pixRow s s.regs.pkRow.toNat))
  rw [List.length_cons, packRow_length_pixRow hgeom, memRead_succ] at hread
  exact (List.cons_eq_cons.1 hread).2

theorem slbRow_packed_other {j : Nat} (hj : j ≠ s.regs.pkRow.toNat) : slbRow (packed s) j = slbRow s j :=
  slbRow_of_other_row (packed_onlyBytes hgeom) rfl le_rfl le_rfl hj

end

/-- Rows of samples that hold the same bytes. -/
theorem pixRow_congr {s t : State} (hpix : ∀ a, readByte t .pix a = readByte s .pix a)
    (hn : samplesPerRow t.regs = samplesPerRow s.regs) (i : Nat) : pixRow t i = pixRow s i := by
  rw [pixRow, pixRow, pixAt, pixAt, hn]
  exact memRead_congr _ _ _ _ _ fun _ _ => hpix _

/-- Packing begun in `s` with n rows to go before row k: of the registers PK_ROW alone has changed, no byte of PIX, and
no byte of SLB from row PK_ROW on; the rows before it hold their packed samples. -/
structure PackingTo (s : State) (k n : Nat) (v : State) : Prop where
  regs : v.regs = { s.regs with pkRow := v.regs.pkRow }
  started : s.regs.pkRow.toNat ≤ v.regs.pkRow.toNat
  row : v.regs.pkRow.toNat + n = k
  pix : ∀ a, readByte v .pix a = readByte s .pix a
  todo : ∀ a, v.regs.pkRow.toNat * (s.regs.pitch.toNat + 1) ≤ a → readByte v .slb a = readByte s .slb a
  done : ∀ i, s.regs.pkRow.toNat ≤ i → i < v.regs.pkRow.toNat → slbRow v i =
    packRow s.regs.bitDepth.toNat s.regs.pitch.toNat (samplesPerRow s.regs) (pixRow s i)

section
variable {s v : State} {k n : Nat}

theorem PackingTo.start (h : s.regs.pkRow.toNat ≤ k) : PackingTo s k (k - s.regs.pkRow.toNat) s :=
  ⟨rfl, le_rfl, by omega, fun _ => rfl, fun _ _ => rfl, fun _ hlo hhi => absurd hlo hhi.not_ge⟩

/-- The samples of a row are those packing began with. -/
theorem PackingTo.pixRow_eq (hv : PackingTo s k n v) (i : Nat) : pixRow v i = pixRow s i :=
  pixRow_congr hv.pix (by rw [hv.regs]; rfl) i

/-- Whether row PK_ROW fits is decided by the samples packing began with. -/
theorem PackingTo.samplesFit_eq (hv : PackingTo s k n v) :
    samplesFit v.regs.bitDepth.toNat (pixRow v v.regs.pkRow.toNat) =
      samplesFit s.regs.bitDepth.toNat (pixRow s v.regs.pkRow.toNat) := by
  rw [hv.pixRow_eq, show v.regs.bitDepth = s.regs.bitDepth by rw [hv.regs]]

variable (herr : s.regs.status.err = false) (hcfg : s.regs.status.cfg = true) (hk : k ≤ s.regs.height.toNat)
  (hgeom : PackGeometry s.regs)
  (hfit : ∀ i, s.regs.pkRow.toNat ≤ i → i < k → samplesFit s.regs.bitDepth.toNat (pixRow s i) = true)
include herr hcfg hk hgeom hfit

/-- One more row: PACK_ROW does what the loop's body does. -/
theorem PackingTo.next (hv : PackingTo s k (n + 1) v) :
    ∃ w, packNext v = .ok () w ∧ exec .packRow v = .next w ∧ PackingTo s k n w := by
  have hfit' := hv.samplesFit_eq
  have hsamples := hv.pixRow_eq v.regs.pkRow.toNat
  obtain ⟨hregs, hstarted, hrow, hpix, htodo, hdone⟩ := hv
  rw [hfit _ hstarted (by omega)] at hfit'
  have hgeom' : PackGeometry v.regs := by
    rw [hregs]
    exact ⟨hgeom.depth, hgeom.pitch⟩
  have hlt : v.regs.pkRow.toNat < v.regs.height.toNat := by
    rw [show v.regs.height = s.regs.height by rw [hregs]]
    omega
  have hnext : (packed v).regs.pkRow.toNat = v.regs.pkRow.toNat + 1 := toNat_add_one_of_lt hlt
  have hstatus : v.regs.status = s.regs.status := by rw [hregs]
  have hpitch : v.regs.pitch = s.regs.pitch := by rw [hregs]
  refine ⟨packed v, packNext_of_fit hfit', exec_packRow_of_fit (hstatus ▸ herr) (hstatus ▸ hcfg) hlt hfit',
    ⟨by rw [packed_regs, hregs], by omega, by omega, fun a => ?_, fun a ha => ?_, fun i hlo hhi => ?_⟩⟩
  · rw [packed_onlyBytes hgeom' .pix a (by simp), hpix]
  · rw [hnext, Nat.succ_mul] at ha
    rw [packed_onlyBytes hgeom' .slb a, htodo a (by omega)]
    rw [filtAt, hpitch]
    omega
  · rw [hnext] at hhi
    rcases Nat.lt_succ_iff_lt_or_eq.1 hhi with hhi | rfl
    · rw [slbRow_packed_other hgeom' hhi.ne, hdone i hlo hhi]
    · rw [slbRow_packed_same hgeom', hsamples, hregs]
      rfl

/-- The rows before k are packed alike by PACK_ROW commands and by PACK_ALL, which goes on with the rows from k on. -/
theorem exec_packAll_eq_execAll (hfrom : s.regs.pkRow.toNat ≤ k) :
    ∃ u, execAll (List.replicate (k - s.regs.pkRow.toNat) .packRow) s = .next u ∧ PackingTo s k 0 u ∧
      exec .packAll s = .next (settle 0x43#8 (repeatRows packNext (s.regs.height.toNat - k) u)) := by
  obtain ⟨u, hloop, hall, hu⟩ := repeatRows_eq_execAll
    (fun _ _ => PackingTo.next herr hcfg hk hgeom hfit) (PackingTo.start hfrom)
  have hrows : s.regs.height.toNat - s.regs.pkRow.toNat = k - s.regs.pkRow.toNat + (s.regs.height.toNat - k) := by
    omega
  refine ⟨u, hall, hu, (runCommand_ready herr 0x43#8 packAll).trans ?_⟩
  rw [packAll, require_pos hcfg, andThen_ok, hrows, repeatRows_add_of_ok _ hloop]

end

/-- Settles O46: k − PK_ROW turns of the loop are as many PACK_ROW commands; what PACK_ALL does after them is nothing,
or the error of row k. -/
theorem packAllRepeatsPackRow : Obligations.PackAllRepeatsPackRow := by
  refine ⟨rfl, fun s herr => ⟨fun hcfg => ?_, ?_⟩⟩
  · refine (runCommand_ready herr 0x43#8 packAll).trans ?_
    rw [packAll, require_neg hcfg]
    rfl
  · intro hcfg d n p hpitch hdepth k hfrom hk hle
    obtain ⟨u, hall, hu, hexec⟩ := exec_packAll_eq_execAll herr hcfg hk ⟨hdepth, hpitch⟩
      (fun i hlo hhi => samplesFit_of_le (hle i hlo hhi)) hfrom
    have hrow : u.regs.pkRow.toNat = k := hu.row
    refine ⟨u, hall, hrow, by rw [hu.regs], fun a ha => hu.todo a (by rwa [hrow]), fun hend => ?_,
      fun hlt ⟨x, hx, hgt⟩ => ?_⟩
    · rw [hexec, hend, Nat.sub_self]
      rfl
    · have hd : d < 8 := by
        have hbyte := (readByte s .pix (k * n + x)).isLt
        by_contra hd
        rw [show d = 8 by omega] at hgt
        omega
      have hunfit : samplesFit u.regs.bitDepth.toNat (pixRow u u.regs.pkRow.toNat) = false := by
        rw [hu.samplesFit_eq, hrow]
        exact samplesFit_of_gt hd ⟨_, List.mem_map.2 ⟨x, List.mem_range.2 hx, rfl⟩, hgt⟩
      rw [hexec, show s.regs.height.toNat - k = s.regs.height.toNat - k - 1 + 1 by omega, repeatRows,
        packNext_of_unfit hunfit]
      rfl

end Sys2Proof.Machine
end

section
/-! PROOFS. The bit-depth round trip at the level of the block (44_bitdepth.md R246): PACK_ALL fills SLB with the packed
rows, FILTER_ALL and UNFILTER_ALL give them back and leave PIX alone (43_filter.md R210), and UNPACK_ALL writes the
samples that PIX holds already. -/

set_option autoImplicit false

namespace Sys2Proof.Machine

/-! ## The filters store in SLB only (20_memory.md R62) -/

/-- SLB, whole. -/
def slbRegion (sp : Space) (_ : Nat) : Prop := sp = .slb

section
variable {s u t : State}

theorem ChangesOnly.pix (h : ChangesOnly slbRegion s t) (a : Nat) : readByte t .pix a = readByte s .pix a :=
  h .pix a nofun

theorem unfilterNext_ends_slbOnly (u : State) (h : ChangesOnly slbRegion s u) :
    (unfilterNext u).Ends (ChangesOnly slbRegion s) := by
  rcases unfilterNext_cases u with ⟨-, he⟩ | ⟨ft, -, he⟩ <;> rw [he]
  · exact ⟨h, by decide⟩
  · exact (h.memWrite fun _ _ _ => rfl).congr fun _ _ => rfl

theorem filterNext_ends_slbOnly (ftByte : Byte) (ft : FilterType) (u : State) (h : ChangesOnly slbRegion s u) :
    (filterNext ftByte ft u).Ends (ChangesOnly slbRegion s) := by
  rw [filterNext_eq]
  exact (h.memWrite fun _ _ _ => rfl).congr fun _ _ => rfl

theorem runCommand_slbOnly {op : Byte} {body : State → Result Unit} (hx : runCommand op body s = .next t)
    (hb : (body s).Ends (ChangesOnly slbRegion s)) : ChangesOnly slbRegion s t :=
  runCommand_keeps hx (.refl _ s) hb (fun _ _ hu => hu.congr fun _ _ => rfl) fun _ _ hu => hu.congr fun _ _ => rfl

theorem exec_unfilterAll_slbOnly (hx : exec .unfilterAll s = .next t) : ChangesOnly slbRegion s t :=
  runCommand_slbOnly hx (ends_require_andThen (.refl _ s) fun _ =>
    ends_repeatRows unfilterNext_ends_slbOnly _ s (.refl _ s))

theorem exec_filterAll_slbOnly {b : Byte} {ft : FilterType} (hft : filterTypeOf b = some ft)
    (hx : exec (.filterAll b) s = .next t) : ChangesOnly slbRegion s t := by
  refine runCommand_slbOnly hx ?_
  rw [withFilterType_of_some hft]
  exact ends_require_andThen (.refl _ s) fun _ => ends_repeatRows (filterNext_ends_slbOnly b ft) _ s (.refl _ s)

end

/-! ## FILTER_ALL and UNFILTER_ALL (43_filter.md R210) -/

/-- What filtering and reconstructing every row keep: the rows of SLB and the bytes of PIX; of the registers, all but
FE_LEFT and UF_ROW. -/
structure RowsKept (s t : State) : Prop where
  regs : t.regs = { s.regs with feLeft := t.regs.feLeft, ufRow := t.regs.ufRow }
  row : ∀ i < s.regs.height.toNat, slbRow t i = slbRow s i
  pix : ∀ a, readByte t .pix a = readByte s .pix a

theorem execAll_filterAll_unfilterAll {s : State} {b : Byte} (hb : b.toNat ≤ 4) (herr : s.regs.status.err = false)
    (hcfg : s.regs.status.cfg = true) (hleft : s.regs.feLeft = s.regs.height) (hstart : s.regs.ufRow = 0#32)
    (hstride : 1 ≤ s.regs.stride.toNat) :
    ∃ t, execAll [.filterAll b, .unfilterAll] s = .next t ∧ RowsKept s t := by
  obtain ⟨ft, hft⟩ := filterTypeOf_of_le hb
  obtain ⟨u, hfilter, hrows, -⟩ := exec_filterAll_eq_execAll herr hft hcfg
  have hlen : (List.replicate s.regs.feLeft.toNat b).length = s.regs.height.toNat := by
    rw [List.length_replicate, hleft]
  obtain ⟨u', hrows', hu⟩ := execAll_filterRow (fts := List.replicate s.regs.feLeft.toNat b)
    (fun b' hb' => (List.eq_of_mem_replicate hb') ▸ hb) herr hcfg List.length_replicate.symm
  rw [List.map_replicate, hrows] at hrows'
  cases hrows'
  obtain ⟨t, hunfilter, ht⟩ := exec_unfilterAll_of_filtered hu hlen herr hcfg hstride hstart
  have hend : t.regs.ufRow.toNat = s.regs.height.toNat := by
    rw [← Nat.add_zero t.regs.ufRow.toNat, ht.left, hu.regs]
  refine ⟨t, (execAll_cons_next hfilter).trans (execAll_cons_next hunfilter), by rw [ht.regs, hu.regs],
    fun i hi => ht.done i (hend ▸ hi), fun a => ?_⟩
  rw [(exec_unfilterAll_slbOnly hunfilter).pix, (exec_filterAll_slbOnly hft hfilter).pix]

/-! ## UNPACK_ALL where PIX holds the samples already (R242) -/

/-- Writing back what a buffer holds changes no byte (20_memory.md R61). -/
theorem memWrite_memRead_sameBytes (s : State) (sp : Space) (a n : Nat) :
    SameBytes s (memWrite s sp a (memRead s sp a n)) := by
  intro sp' a'
  rw [readByte_memWrite, memRead_length]
  split
  · rename_i hin
    obtain ⟨rfl, hlo, hhi⟩ := hin
    rw [memRead_getD _ _ _ _ _ (by omega), Nat.add_sub_cancel' hlo]
  · rfl

theorem unpacked_sameBytes {s : State} (h : unpackRow s.regs.bitDepth.toNat (samplesPerRow s.regs)
    (slbRow s s.regs.upRow.toNat) = pixRow s s.regs.upRow.toNat) : SameBytes s (unpacked s) := by
  rw [unpacked, h]
  exact memWrite_memRead_sameBytes s .pix _ _

theorem slbRow_congr {s t : State} (hsame : SameBytes s t) (hpitch : t.regs.pitch = s.regs.pitch) (i : Nat) :
    slbRow t i = slbRow s i := by
  rw [slbRow, slbRow, dataAt, dataAt, hpitch]
  exact memRead_congr _ _ _ _ _ fun _ _ => hsame _ _

section
variable {s : State} (hheld : ∀ i < s.regs.height.toNat,
  unpackRow s.regs.bitDepth.toNat (samplesPerRow s.regs) (slbRow s i) = pixRow s i)
include hheld

theorem Unpacking.next_sameBytes {v : State} {n : Nat} (hv : Unpacking s (n + 1) v) (hsame : SameBytes s v) :
    SameBytes s (unpacked v) := by
  obtain ⟨hregs, hleft⟩ := hv
  have hrow := hheld v.regs.upRow.toNat (by omega)
  rw [← slbRow_congr hsame (by rw [hregs]), ← pixRow_congr (hsame .pix) (by rw [hregs]; rfl)] at hrow
  have hwritten : SameBytes v (unpacked v) := unpacked_sameBytes (by rwa [hregs] at hrow ⊢)
  exact fun sp a => (hwritten sp a).trans (hsame sp a)

theorem exec_unpackAll_of_held (herr : s.regs.status.err = false) (hcfg : s.regs.status.cfg = true)
    (hup : s.regs.upRow.toNat ≤ s.regs.height.toNat) :
    ∃ t, exec .unpackAll s = .next t ∧ t.regs.status = s.regs.status ∧ SameBytes s t := by
  obtain ⟨t, hexec, -, ht, hsame⟩ := exec_unpackAll_eq_execAll herr hcfg hup (P := SameBytes s) (fun _ _ => rfl)
    fun _ _ hv => hv.next_sameBytes hheld
  exact ⟨t, hexec, by rw [ht.regs], hsame⟩

end

/-! ## The round trip (R246) -/

/-- CONFIGURE raises an error in the state it was given, or commits (40_control.md R124 to R127). -/
theorem configure_cases (s : State) :
    (∃ e, configure s = .raised e s) ∨ configure s = .ok () (commitConfiguration s) := by
  cases hacc : configureError s.regs with
  | some e => exact .inl ⟨e, configure_of_error hacc⟩
  | none =>
    rw [configure_of_accepted hacc]
    split
    · exact .inr rfl
    · exact .inl ⟨_, rfl⟩

/-- A CONFIGURE that leaves no error has committed. -/
theorem eq_commitConfiguration_of_exec {s t : State} (herr : s.regs.status.err = false)
    (hx : exec .configure s = .next t) (ht : t.regs.status.err = false) : t = commitConfiguration s := by
  rw [exec_configure_ready herr] at hx
  rcases configure_cases s with ⟨e, he⟩ | he <;> rw [he] at hx <;> cases hx
  · exact absurd ht (by simp)
  · rfl

/-- The registers CONFIGURE leaves: all rows are still to be packed, filtered, reconstructed and unpacked. -/
structure NoRowDone (r : Regs) : Prop where
  pkRow : r.pkRow = 0#32
  feLeft : r.feLeft = r.height
  ufRow : r.ufRow = 0#32
  upRow : r.upRow = 0#32

/-- What PACK_ALL, FILTER_ALL and UNFILTER_ALL leave: every row of SLB holds the packed samples of its row of PIX, PIX
is as it was, and of the registers only the counters of the three units have changed. -/
structure HoldsPacked (s v : State) : Prop where
  regs : v.regs = { s.regs with pkRow := v.regs.pkRow, feLeft := v.regs.feLeft, ufRow := v.regs.ufRow }
  row : ∀ i < s.regs.height.toNat, slbRow v i =
    packRow s.regs.bitDepth.toNat s.regs.pitch.toNat (samplesPerRow s.regs) (pixRow s i)
  pix : ∀ a, readByte v .pix a = readByte s .pix a

section
variable {s : State} {b : Byte} (hconf : Configured s.regs s.params) (hrows : NoRowDone s.regs)
  (herr : s.regs.status.err = false) (hcfg : s.regs.status.cfg = true) (hb : b.toNat ≤ 4)
  (hrange : ∀ i < s.regs.height.toNat, ∀ v ∈ pixRow s i, v.toNat ≤ 2 ^ s.regs.bitDepth.toNat - 1)
include hconf hrows herr hcfg hb hrange

theorem execAll_pack_filter_unfilter :
    ∃ v, execAll [.packAll, .filterAll b, .unfilterAll] s = .next v ∧ HoldsPacked s v := by
  obtain ⟨hpk, hfe, huf, -⟩ := hrows
  obtain ⟨u, -, hu, hpack⟩ := exec_packAll_eq_execAll herr hcfg le_rfl hconf.packGeometry
    (fun i _ hi => (samplesFit_eq_true_iff _ _).2 fun _ => hrange i hi) hconf.pkRow
  rw [Nat.sub_self] at hpack
  have hend : u.regs.pkRow.toNat = s.regs.height.toNat := hu.row
  have hstatus : u.regs.status = s.regs.status := by rw [hu.regs]
  have hstride : u.regs.stride = s.regs.stride := by rw [hu.regs]
  obtain ⟨v, hfilters, hv⟩ := execAll_filterAll_unfilterAll (s := u) hb (hstatus ▸ herr) (hstatus ▸ hcfg)
    (by rwa [hu.regs]) (by rwa [hu.regs]) (hstride ▸ configured_stride hconf)
  refine ⟨v, (execAll_cons_next hpack).trans hfilters, by rw [hv.regs, hu.regs], fun i hi => ?_,
    fun a => (hv.pix a).trans (hu.pix a)⟩
  rw [hv.row i (by rwa [hu.regs]), hu.done i (by rw [hpk]; exact Nat.zero_le i) (hend ▸ hi)]

/-- After UNPACK_ALL PIX holds its samples again: it held them all along, and they are what is written. -/
theorem execAll_pack_filter_unfilter_unpack :
    ∃ t, execAll [.packAll, .filterAll b, .unfilterAll, .unpackAll] s = .next t ∧
      t.regs.status = s.regs.status ∧ ∀ k, readByte t .pix k = readByte s .pix k := by
  obtain ⟨v, hall, hregs, hrow, hpix⟩ := execAll_pack_filter_unfilter hconf hrows herr hcfg hb hrange
  obtain ⟨hdepth, hpitch⟩ := hconf.packGeometry
  have hheld (i : Nat) (hi : i < v.regs.height.toNat) :
      unpackRow v.regs.bitDepth.toNat (samplesPerRow v.regs) (slbRow v i) = pixRow v i := by
    have hi' : i < s.regs.height.toNat := by rwa [hregs] at hi
    rw [hrow i hi', pixRow_congr hpix (by rw [hregs]; rfl), hregs, hpitch]
    exact unpackRow_packRow hdepth (hrange i hi') (pixRow_length s i)
  have hstatus : v.regs.status = s.regs.status := by rw [hregs]
  have hup : v.regs.upRow.toNat ≤ v.regs.height.toNat := by
    rw [hregs, hrows.upRow]
    exact Nat.zero_le _
  obtain ⟨t, hunpack, ht, hsame⟩ := exec_unpackAll_of_held hheld (hstatus ▸ herr) (hstatus ▸ hcfg) hup
  exact ⟨t, (execAll_append_next (js := [.unpackAll]) hall).trans (execAll_cons_next hunpack), ht.trans hstatus,
    fun k => (hsame .pix k).trans (hpix k)⟩

end

/-- Every sample of a row below HEIGHT lies below PIX_SIZE (20_memory.md R63). -/
theorem forall_mem_pixRow {s : State} {p : Byte → Prop} (hconf : Configured s.regs s.params)
    (h : ∀ k < s.regs.pixSize.toNat, p (readByte s .pix k)) {i : Nat} (hi : i < s.regs.height.toNat) :
    ∀ v ∈ pixRow s i, p v := by
  have hwithin := pix_row_within hconf hi
  exact (forall_mem_memRead s .pix _ _).2 fun x hx => h _ (by omega)

/-- Settles O47: the configuration CONFIGURE commits has all its rows before it. -/
theorem packToUnpackRoundTrip : Obligations.PackToUnpackRoundTrip := by
  intro s s₀ b hinv hrun herr hx herr₀ hb hle
  have hinv₀ : s₀.Inv := exec_inv ⟨hinv, hrun⟩ hx
  obtain rfl := eq_commitConfiguration_of_exec herr hx herr₀
  have hconf : Configured (commitConfiguration s).regs (commitConfiguration s).params := hinv₀.configured rfl
  exact execAll_pack_filter_unfilter_unpack hconf ⟨rfl, rfl, rfl, rfl⟩ herr₀ rfl hb
    fun _ hi => forall_mem_pixRow hconf hle hi

end Sys2Proof.Machine
end

section
/-! PROOFS. The sticky error (60_exceptions.md R273, R277): while STATUS.ERR = 1 no command but RESET runs, and what the
host may still do leaves ERR, ERRCODE and ERROP as they are. -/

set_option autoImplicit false

namespace Sys2Proof.Machine

/-! ## Commands and command words (R273) -/

section
variable {s : State} (h : s.regs.status.err = true)
include h

/-- With an error pending every command but RESET is ignored. -/
theorem exec_sticky {i : Instr} (hreset : ∀ b, i ≠ .reset b) : exec i s = .next s := by
  cases i with
  | reset b => exact absurd rfl (hreset b)
  | idatRun =>
    change execIdatRun s = _
    rw [execIdatRun, if_pos h]
  | crcInit =>
    unfold exec execCrcInit
    exact runCommand_sticky h _ _
  | crcType =>
    unfold exec execCrcType
    exact runCommand_sticky h _ _
  | chunkRead =>
    unfold exec execChunkRead
    exact runCommand_sticky h _ _
  | nop | configure | crcCsb | crcCheck | chunkHdr | chunkSkip | chunkEmit | idatEmit | unfilterRow | unfilterAll
  | filterRow | filterAll | unpackRow | unpackAll | packRow | packAll =>
    exact runCommand_sticky h _ _

/-- With an error pending every word written to CMD but RESET's is ignored, a legal one or not. -/
theorem issueCommand_sticky {w : Word} (hop : w.toNat / 2 ^ 24 ≠ 0x01) : issueCommand w s = .next s := by
  cases hd : decode w with
  | error e => rw [issueCommand_of_error hd, runCommand_sticky h]
  | ok i =>
    rw [issueCommand_of_decode hd]
    refine exec_sticky h fun b hb => hop ?_
    obtain ⟨-, henc⟩ := encodeUndoesDecode w i hd
    rw [← opField_toNat, ← henc, hb]
    exact congrArg BitVec.toNat (opField_append 0x01#8 b)

end

/-! ## What else can change the pending error (R277) -/

/-- The part of STATUS that says which error is pending (10_state.md R23). -/
def pendingError (s : State) : Bool × Byte × Byte := (s.regs.status.err, s.regs.status.errCode, s.regs.status.errOp)

theorem pendingError_regWrite (s : State) (r : Reg) (v : Word) :
    pendingError { s with regs := regWrite s.regs r v } = pendingError s := by
  cases r <;> rfl

/-- An access that names a register is a word access at its offset (20_memory.md R65, R68). -/
theorem eq_of_resolve_register {p : Params} {addr : Word} {width : Width} {off : Nat}
    (h : resolve p addr width = .ok (.register off)) : addr.toNat = off ∧ width = .word := by
  unfold resolve at h
  split at h
  · split at h <;> cases h
    rename_i hform
    exact ⟨rfl, hform.2⟩
  · split at h
    · cases h
    · split at h
      · cases h
      · split at h <;> cases h

theorem hostRead_pendingError {addr : Word} {width : Width} {s t : State} (hx : hostRead addr width s = .next t) :
    pendingError t = pendingError s := by
  unfold hostRead at hx
  split at hx <;> cases hx <;> rfl

/-- With an error pending a register write keeps it, unless it writes RESET's word to CMD. -/
theorem hostRegWrite_pendingError {off : Nat} {w : Word} {s t : State} (h : s.regs.status.err = true)
    (hx : hostRegWrite off w s = .next t) : (regAt off = some .cmd ∧ w.toNat / 2 ^ 24 = 0x01) ∨
      pendingError t = pendingError s := by
  cases hr : regAt off with
  | none =>
    rw [hostRegWrite, hr] at hx
    cases hx
    exact .inr rfl
  | some r =>
    by_cases hcmd : r = .cmd
    · subst hcmd
      rw [hostRegWrite, hr] at hx
      by_cases hop : w.toNat / 2 ^ 24 = 0x01
      · exact .inl ⟨rfl, hop⟩
      · cases (issueCommand_sticky h hop).symm.trans hx
        exact .inr rfl
    · rw [hostRegWrite_of_regAt hr hcmd] at hx
      cases hx
      exact .inr (pendingError_regWrite s r w)

/-- With an error pending a host write keeps it, unless it writes RESET's word to CMD. -/
theorem hostWrite_pendingError {addr w : Word} {width : Width} {s t : State} (h : s.regs.status.err = true)
    (hx : hostWrite addr width w s = .next t) :
    (addr = cmdAddress ∧ width = .word ∧ w.toNat / 2 ^ 24 = 0x01) ∨ pendingError t = pendingError s := by
  unfold hostWrite at hx
  split at hx
  · cases hx
  · rename_i off hres
    obtain ⟨hoff, hwidth⟩ := eq_of_resolve_register hres
    refine (hostRegWrite_pendingError h hx).imp_left fun ⟨hcmd, hop⟩ => ⟨?_, hwidth, hop⟩
    exact BitVec.eq_of_toNat_eq (hoff.trans (regAddress_of_regAt hcmd).symm)
  · rename_i sp off _
    cases hx
    exact .inr (by rw [pendingError, hostBufWrite, memWrite_regs]; rfl)

/-- A block that waits for a stream has no next state unless power-on comes (70_reset_and_hazards.md R313). -/
theorem notHung_of_step {s t : State} (hpower : s.host.head? ≠ some .powerOn) (hx : step s = .next t) :
    s.hung = none := by
  unfold step advance at hx
  split at hx
  · rename_i hs
    exact absurd (by rw [hs, List.head?_cons]) hpower
  · cases hh : s.hung with
    | none => rfl
    | some w => rw [proceed, hh] at hx; cases hx

/-- Settles O54: with an error pending no run is in progress, so the step is power-on or the host's oldest access. -/
theorem onlyResetLeavesTheErrorState : Obligations.OnlyResetLeavesTheErrorState := by
  intro s t hinv herr hx
  by_cases hpower : s.host.head? = some .powerOn
  · exact .inl hpower
  refine .inr ?_
  have hrun : s.running = false := Bool.eq_false_iff.2 fun hrun => nomatch (hinv.runErr hrun).symm.trans herr
  have hidle : s.Idle := ⟨notHung_of_step hpower hx, hrun⟩
  have kept (hk : pendingError t = pendingError s) : t.regs.status.err = true ∧
      t.regs.status.errCode = s.regs.status.errCode ∧ t.regs.status.errOp = s.regs.status.errOp :=
    ⟨(congrArg (·.1) hk).trans herr, congrArg (·.2.1) hk, congrArg (·.2.2) hk⟩
  cases hs : s.host with
  | nil =>
    rw [step_idle_waiting hidle hs] at hx
    cases hx
    exact .inr (kept rfl)
  | cons event rest =>
    cases event with
    | powerOn => exact absurd (by rw [hs, List.head?_cons]) hpower
    | read addr width =>
      rw [step_idle_read hidle hs] at hx
      have hk := hostRead_pendingError hx
      exact .inr (kept hk)
    | write addr width w =>
      rw [step_idle_write hidle hs] at hx
      have hwrite := hostWrite_pendingError (s := { s with host := rest }) herr hx
      obtain ⟨rfl, rfl, hop⟩ | hk := hwrite
      · exact .inl ⟨w, rfl, hop⟩
      · exact .inr (kept hk)

/-! ## What still works (R273) -/

/-- The address of byte `off` of a buffer names that byte (20_memory.md R65, R67). -/
theorem resolve_spaceBase_add {p : Params} (hp : p.Legal) {sp : Space} {off : Word} (hoff : off.toNat < p.cap sp) :
    resolve p (spaceBase sp + off) .byte = .ok (.buffer sp off.toNat) := by
  have hcap := cap_le_of_legal hp sp
  have hbase : (spaceBase sp).toNat ≤ 0x30000000 := by cases sp <;> decide
  have haddr : (spaceBase sp + off).toNat = (spaceBase sp).toNat + off.toNat := by
    rw [BitVec.toNat_add]
    omega
  rw [resolve_byte hp (sp := sp) (by omega) (by omega), haddr, Nat.add_sub_cancel_left]

/-- Settles O10: commands and illegal words by the sticky error, register accesses as at any time, and a buffer access
by the byte its address names. -/
theorem stickyErrorIgnoresCommands : Obligations.StickyErrorIgnoresCommands := by
  refine fun s herr => ⟨fun _ => exec_sticky herr, fun _ ⟨hop, _⟩ => issueCommand_sticky herr hop,
    fun r v hr => hostWrite_regAddress hr v s, fun r => hostRead_regAddress r s, fun sp off v hoff hp => ?_⟩
  rw [hostWrite, hostRead, resolve_spaceBase_add hp hoff]
  exact ⟨rfl, rfl⟩

end Sys2Proof.Machine
end

section
/-! PROOFS. Which errors each command raises (60_exceptions.md R272), and that all but RESET, CONFIGURE and IDAT_RUN
change STATUS by error entry alone (R275). The pseudocode of each of those commands `RaisesOnly` its errors, with STATUS
as it was however it ends; CONFIGURE and IDAT_RUN, which change STATUS themselves, are gone through by their ends. -/

set_option autoImplicit false

namespace Sys2Proof.Machine

/-! ## Pseudocode that leaves STATUS alone -/

/-- STATUS is `st` however the pseudocode ends, and an error it raises has one of the codes. -/
def RaisesOnly {α : Type} (codes : List Byte) (st : Status) : Result α → Prop
  | .ok _ s => s.regs.status = st
  | .raised e s => s.regs.status = st ∧ errorCode e ∈ codes
  | .blocked _ s => s.regs.status = st

section
variable {α β : Type} {codes : List Byte} {st : Status} {s : State}

theorem raisesOnly_andThen {r : Result α} {f : α → State → Result β} (hr : RaisesOnly codes st r)
    (hf : ∀ a u, u.regs.status = st → RaisesOnly codes st (f a u)) : RaisesOnly codes st (r.andThen f) := by
  cases r with
  | ok a u => exact hf a u hr
  | raised e u => exact hr
  | blocked w u => exact hr

theorem raisesOnly_require {c : Bool} {e : ErrKind} (hs : s.regs.status = st)
    (he : errorCode e ∈ codes := by decide) : RaisesOnly codes st (require c e s) := by
  cases c
  · exact ⟨hs, he⟩
  · exact hs

/-- A check, then pseudocode that starts from the state checked. -/
theorem raisesOnly_require_andThen {c : Bool} {e : ErrKind} {f : Unit → State → Result β}
    (hs : s.regs.status = st) (hf : RaisesOnly codes st (f () s)) (he : errorCode e ∈ codes := by decide) :
    RaisesOnly codes st ((require c e s).andThen f) := by
  cases c
  · exact ⟨hs, he⟩
  · exact hf

theorem raisesOnly_streamRead (hs : s.regs.status = st) (n : Nat) : RaisesOnly codes st (streamRead n s) := by
  rcases streamRead_cases n s with ⟨p, src, -, he⟩ | ⟨-, he⟩ <;> rw [he] <;> exact hs

/-- A loop over rows raises what one row raises. -/
theorem raisesOnly_repeatRows {body : State → Result Unit}
    (hb : ∀ u, u.regs.status = st → RaisesOnly codes st (body u)) (n : Nat) (hs : s.regs.status = st) :
    RaisesOnly codes st (repeatRows body n s) := by
  induction n generalizing s with
  | zero => exact hs
  | succ n ih => exact raisesOnly_andThen (hb s hs) fun _ _ hu => ih hu

/-! ## The filters and the bit-depth units (43_filter.md, 44_bitdepth.md) -/

/-- A row command: CFG, a row left, the row. -/
theorem rowCommand_raisesOnly {left : State → Bool} {body : State → Result Unit} (hs : s.regs.status = st)
    (hb : ∀ u, u.regs.status = st → RaisesOnly codes st (body u)) (he : 0x10#8 ∈ codes) :
    RaisesOnly codes st ((require s.regs.status.cfg .sequenceError s).andThen fun _ s =>
      (require (left s) .sequenceError s).andThen fun _ s => body s) :=
  raisesOnly_require_andThen hs (raisesOnly_require_andThen hs (hb s hs) he) he

/-- A command over all the rows left: CFG, then the loop. -/
theorem allRowsCommand_raisesOnly {left : State → Nat} {body : State → Result Unit} (hs : s.regs.status = st)
    (hb : ∀ u, u.regs.status = st → RaisesOnly codes st (body u)) (he : 0x10#8 ∈ codes) :
    RaisesOnly codes st
      ((require s.regs.status.cfg .sequenceError s).andThen fun _ s => repeatRows body (left s) s) :=
  raisesOnly_require_andThen hs (raisesOnly_repeatRows hb _ hs) he

theorem unfilterNext_raisesOnly (s : State) (hs : s.regs.status = st) :
    RaisesOnly (errorsOf .unfilterRow) st (unfilterNext s) := by
  rcases unfilterNext_cases s with ⟨-, he⟩ | ⟨ft, -, he⟩ <;> rw [he]
  · exact ⟨hs, by decide⟩
  · exact hs

theorem filterNext_raisesOnly (ftByte : Byte) (ft : FilterType) (s : State) (hs : s.regs.status = st) :
    RaisesOnly codes st (filterNext ftByte ft s) := by
  rw [filterNext_eq]
  exact hs

theorem unpackNext_raisesOnly (s : State) (hs : s.regs.status = st) : RaisesOnly codes st (unpackNext s) := by
  rw [unpackNext_eq]
  exact hs

theorem packNext_raisesOnly (s : State) (hs : s.regs.status = st) :
    RaisesOnly (errorsOf .packRow) st (packNext s) := by
  rcases packNext_cases s with ⟨-, he⟩ | ⟨-, he⟩ <;> rw [he]
  · exact ⟨hs, by decide⟩
  · exact hs

/-- A FILTER command whose operand names a filter. -/
theorem withFilterType_raisesOnly {b : Byte} (hb : b.toNat ≤ 4) {body : FilterType → State → Result Unit}
    (hbody : ∀ ft, RaisesOnly codes st (body ft s)) : RaisesOnly codes st (withFilterType b body s) := by
  obtain ⟨ft, hft⟩ := filterTypeOf_of_le hb
  rw [withFilterType_of_some hft]
  exact hbody ft

/-! ## The chunk commands (41_crc.md, 42_framer.md) -/

theorem crcCsb_raisesOnly (hs : s.regs.status = st) : RaisesOnly (errorsOf .crcCsb) st (crcCsb s) :=
  raisesOnly_require_andThen hs hs

theorem readHeader_raisesOnly (hs : s.regs.status = st) : RaisesOnly (errorsOf .chunkHdr) st (readHeader s) :=
  raisesOnly_andThen (raisesOnly_streamRead hs 8) fun _ _ hu => raisesOnly_require_andThen hu hu

theorem readCrc_raisesOnly (hs : s.regs.status = st) (ty : Word) (p : List Byte) :
    RaisesOnly (errorsOf .chunkRead) st (readCrc ty p s) :=
  raisesOnly_andThen (raisesOnly_streamRead hs 4) fun _ _ hu =>
    raisesOnly_require_andThen hu (raisesOnly_require_andThen hu hu)

theorem readBody_raisesOnly (hs : s.regs.status = st) (ty : Word) :
    RaisesOnly (errorsOf .chunkRead) st (readBody ty s) :=
  raisesOnly_require_andThen hs <| raisesOnly_andThen (raisesOnly_streamRead hs _) fun _ _ hu =>
    raisesOnly_require_andThen hu (readCrc_raisesOnly (s := memWrite _ .csb 0 _) hu ty _)

theorem chunkSkip_raisesOnly (hs : s.regs.status = st) : RaisesOnly (errorsOf .chunkSkip) st (chunkSkip s) :=
  raisesOnly_andThen (raisesOnly_streamRead hs _) fun _ _ hu => raisesOnly_require hu

theorem emitChunk_raisesOnly (hs : s.regs.status = st) (ty : Word) (p : List Byte)
    (he : 0x01#8 ∈ codes) : RaisesOnly codes st (emitChunk ty p s) := by
  unfold emitChunk streamWrite
  split
  · exact hs
  · split
    · exact hs
    · exact raisesOnly_require hs he

theorem chunkEmit_raisesOnly (hs : s.regs.status = st) : RaisesOnly (errorsOf .chunkEmit) st (chunkEmit s) :=
  raisesOnly_require_andThen hs (emitChunk_raisesOnly hs _ _ (by decide))

theorem idatEmit_raisesOnly (hs : s.regs.status = st) : RaisesOnly (errorsOf .idatEmit) st (idatEmit s) :=
  raisesOnly_require_andThen hs <| raisesOnly_require_andThen hs <|
    emitChunk_raisesOnly (s := setChunk _ idatTag (deflateCalled s)) hs _ _ (by decide)

end

/-! ## Commands -/

/-- STATUS is as it was, or an error of the command's has been entered with the command's opcode (R275). -/
def EntersOnlyItsErrors (i : Instr) (s t : State) : Prop :=
  t.regs.status = s.regs.status ∨
    ∃ code ∈ errorsOf i, t.regs.status = { s.regs.status with err := true, errCode := code, errOp := i.opcode }

/-- ERRCODE is one of the command's errors and ERROP its opcode. -/
def HoldsErrorOf (i : Instr) (t : State) : Prop :=
  t.regs.status.errCode ∈ errorsOf i ∧ t.regs.status.errOp = i.opcode

theorem holdsErrorOf_errorState {i : Instr} {code : Byte} {s : State} (h : code ∈ errorsOf i) :
    HoldsErrorOf i (errorState i.opcode code s) := ⟨h, rfl⟩

section
variable {i : Instr} {s t : State} (herr : s.regs.status.err = false)
include herr

theorem EntersOnlyItsErrors.holdsErrorOf (h : EntersOnlyItsErrors i s t) (ht : t.regs.status.err = true) :
    HoldsErrorOf i t := by
  obtain hsame | ⟨code, hcode, hst⟩ := h
  · rw [hsame, herr] at ht
    cases ht
  · rw [HoldsErrorOf, hst]
    exact ⟨hcode, rfl⟩

/-- A command whose pseudocode leaves STATUS alone and raises only its errors. -/
theorem runCommand_entersOnly {body : State → Result Unit} (hx : runCommand i.opcode body s = .next t)
    (hb : RaisesOnly (errorsOf i) s.regs.status (body s)) : EntersOnlyItsErrors i s t := by
  rw [runCommand_ready herr] at hx
  cases hx
  cases hr : body s with
  | ok _ u =>
    rw [hr] at hb
    exact .inl hb
  | raised e u =>
    rw [hr] at hb
    obtain ⟨hst, he⟩ := hb
    exact .inr ⟨errorCode e, he, by rw [settle_raised, errorState_regs, hst]⟩
  | blocked w u =>
    rw [hr] at hb
    exact .inl hb

/-- Every command but RESET, CONFIGURE and IDAT_RUN changes STATUS by error entry alone. -/
theorem exec_entersOnly (hwf : i.WellFormed) (hreset : ∀ b, i ≠ .reset b) (hconf : i ≠ .configure)
    (hrun : i ≠ .idatRun) (hx : exec i s = .next t) : EntersOnlyItsErrors i s t := by
  cases i with
  | reset b => exact absurd rfl (hreset b)
  | configure => exact absurd rfl hconf
  | idatRun => exact absurd rfl hrun
  | nop => exact runCommand_entersOnly herr hx rfl
  | crcInit =>
    unfold exec execCrcInit at hx
    exact runCommand_entersOnly herr hx rfl
  | crcType =>
    unfold exec execCrcType at hx
    exact runCommand_entersOnly herr hx rfl
  | crcCsb => exact runCommand_entersOnly herr hx (crcCsb_raisesOnly rfl)
  | crcCheck => exact runCommand_entersOnly herr hx (raisesOnly_require rfl)
  | chunkHdr => exact runCommand_entersOnly herr hx (readHeader_raisesOnly rfl)
  | chunkRead =>
    unfold exec execChunkRead at hx
    exact runCommand_entersOnly herr hx (raisesOnly_andThen (readBody_raisesOnly rfl _) fun _ _ hu => hu)
  | chunkSkip => exact runCommand_entersOnly herr hx (chunkSkip_raisesOnly rfl)
  | chunkEmit => exact runCommand_entersOnly herr hx (chunkEmit_raisesOnly rfl)
  | idatEmit => exact runCommand_entersOnly herr hx (idatEmit_raisesOnly rfl)
  | unfilterRow => exact runCommand_entersOnly herr hx (rowCommand_raisesOnly rfl unfilterNext_raisesOnly (by decide))
  | unfilterAll =>
    exact runCommand_entersOnly herr hx (allRowsCommand_raisesOnly rfl unfilterNext_raisesOnly (by decide))
  | filterRow ft =>
    exact runCommand_entersOnly herr hx <| withFilterType_raisesOnly (of_decide_eq_true hwf) fun f =>
      rowCommand_raisesOnly rfl (filterNext_raisesOnly ft f) (List.mem_singleton_self _)
  | filterAll ft =>
    exact runCommand_entersOnly herr hx <| withFilterType_raisesOnly (of_decide_eq_true hwf) fun f =>
      allRowsCommand_raisesOnly rfl (filterNext_raisesOnly ft f) (List.mem_singleton_self _)
  | unpackRow => exact runCommand_entersOnly herr hx (rowCommand_raisesOnly rfl unpackNext_raisesOnly (by decide))
  | unpackAll => exact runCommand_entersOnly herr hx (allRowsCommand_raisesOnly rfl unpackNext_raisesOnly (by decide))
  | packRow => exact runCommand_entersOnly herr hx (rowCommand_raisesOnly rfl packNext_raisesOnly (by decide))
  | packAll => exact runCommand_entersOnly herr hx (allRowsCommand_raisesOnly rfl packNext_raisesOnly (by decide))

/-- CONFIGURE raises the error of its first check that fails, or MemoryError (40_control.md R124, R126). -/
theorem exec_configure_error (hx : exec .configure s = .next t) (ht : t.regs.status.err = true) :
    HoldsErrorOf .configure t := by
  obtain ⟨hcorrupt, hunsupported, hmemory⟩ := configureRejects s herr
  by_cases hc : CorruptDescriptor s.regs
  · cases (hcorrupt hc).symm.trans hx
    exact holdsErrorOf_errorState (by decide)
  · by_cases hu : UnsupportedDescriptor s.regs
    · cases (hunsupported hc hu).symm.trans hx
      exact holdsErrorOf_errorState (by decide)
    · by_cases hfits : geomSlb s.regs ≤ s.params.slbCap ∧ geomPix s.regs ≤ s.params.pixCap
      · rw [exec_configure_ready herr, configure_of_accepted (configureError_of_supported hc hu), if_pos hfits] at hx
        cases hx
        exact nomatch herr.symm.trans ht
      · cases (hmemory hc hu (by omega)).symm.trans hx
        exact holdsErrorOf_errorState (by decide)

/-- A turn of a run raises only errors of IDAT_RUN's (42_framer.md R173). -/
theorem idatTurn_holdsErrorOf (ht : (idatTurn s).regs.status.err = true) : HoldsErrorOf .idatRun (idatTurn s) := by
  obtain ⟨e, u, he, hturn⟩ := idatTurn_error herr ht
  have hsub : turnCodes ⊆ errorsOf .idatRun := by decide
  rw [hturn]
  exact ⟨hsub he, rfl⟩

/-- IDAT_RUN raises an error of its preconditions (42_framer.md R169), or one of its first turn. -/
theorem exec_idatRun_error (hx : exec .idatRun s = .next t) (ht : t.regs.status.err = true) :
    HoldsErrorOf .idatRun t := by
  obtain ⟨-, hstarts⟩ := idatRunStarts
  obtain ⟨hsequence, hbusy, -⟩ := hstarts s herr
  by_cases hseq : s.regs.status.cfg = false ∨ s.regs.chunkType ≠ 0x49444154#32
  · cases (hsequence hseq).symm.trans hx
    exact holdsErrorOf_errorState (by decide)
  · obtain ⟨hcfg, htag⟩ := not_or.1 hseq
    rw [Bool.not_eq_false] at hcfg
    rw [not_not] at htag
    by_cases hidle : s.regs.status.frState = .idle
    · rw [exec_idatRun_ready herr, idatRun_of_start hcfg htag hidle] at hx
      cases hx
      exact idatTurn_holdsErrorOf herr ht
    · cases (hbusy hcfg htag hidle).symm.trans hx
      exact holdsErrorOf_errorState (by decide)

end

/-- An operand above 4 names no filter, so a FILTER command raises IllegalCommand (30_encoding.md R93, R95). -/
theorem withFilterType_of_gt {b : Byte} (h : 4 < b.toNat) (body : FilterType → State → Result Unit) (s : State) :
    withFilterType b body s = .raised .illegalCommand s := by
  rw [withFilterType, (filterTypeOf_eq_none_iff b).2 h]

/-- Settles O11: RESET leaves no error, CONFIGURE and IDAT_RUN are gone through by their ends, and every other command
changes STATUS by error entry alone. -/
theorem commandsRaiseOnlyTheirErrors : Obligations.CommandsRaiseOnlyTheirErrors := by
  refine ⟨fun ft s hft herr => ⟨?_, ?_⟩, fun i s t hwf herr hx => ⟨fun ht => ?_, fun hreset hconf hrun =>
    exec_entersOnly herr hwf hreset hconf hrun hx⟩⟩
  · have hexec : exec (.filterRow ft) s = _ := runCommand_ready herr _ _
    rw [hexec, withFilterType_of_gt hft]
    rfl
  · have hexec : exec (.filterAll ft) s = _ := runCommand_ready herr _ _
    rw [hexec, withFilterType_of_gt hft]
    rfl
  · by_cases hreset : ∃ b, i = .reset b
    · obtain ⟨b, rfl⟩ := hreset
      cases hx
      cases ht
    · by_cases hconf : i = .configure
      · subst hconf
        exact exec_configure_error herr hx ht
      · by_cases hrun : i = .idatRun
        · subst hrun
          exact exec_idatRun_error herr hx ht
        · exact (exec_entersOnly herr hwf (not_exists.1 hreset) hconf hrun hx).holdsErrorOf herr ht

end Sys2Proof.Machine
end

section
/-! PROOFS. The two resets and the first state (70_reset_and_hazards.md R300 to R302). Each has the registers
`Regs.reset`, so what they read is said once. -/

set_option autoImplicit false

namespace Sys2Proof.Machine

/-- The reset column of the register map (10_state.md R22); CRC_RESULT is the inverted CRC_ACC, so 0 as the rest. -/
theorem regRead_reset (r : Reg) : regRead Regs.reset r = if r = .crcAcc then 0xFFFFFFFF#32 else 0#32 := by
  cases r <;> rfl

theorem atReset_of_regs {t : State} (hregs : t.regs = Regs.reset) (hfrZst : t.frZst = .more)
    (hsession : t.session = none) : AtReset t where
  registers := fun r => by rw [hregs, regRead_reset]
  status := by rw [hregs]; rfl
  frZst := hfrZst
  session := hsession

/-- RESET runs whatever STATUS holds (60_exceptions.md R273). -/
theorem exec_reset (b : BitVec 24) (s : State) : exec (.reset b) s = .next (softReset s) := rfl

/-- Settles O7: RESET, power-on and the first state all have the registers `Regs.reset`. -/
theorem bothResetsGiveResetValues : Obligations.BothResetsGiveResetValues :=
  ⟨fun s b => ⟨softReset s, exec_reset b s, atReset_of_regs rfl rfl rfl⟩, fun _ => atReset_of_regs rfl rfl rfl,
    atReset_of_regs rfl rfl rfl⟩

/-- RESET changes only what lies outside the frame of the commands that store nothing. -/
theorem softReset_sameFrame (s : State) : SameFrame s (softReset s) := rfl

theorem buffer_powerOnReset (s : State) (sp : Space) : buffer (powerOnReset s) sp = [] := by
  cases sp <;> rfl

/-- With no byte written since, every byte is the free one of this power-on (20_memory.md R69). -/
theorem readByte_powerOnReset (s : State) (sp : Space) (a : Nat) :
    readByte (powerOnReset s) sp a = Config.powerOnByte (s.powerCycles + 1) sp a := by
  rw [readByte, buffer_powerOnReset, findByte, powerOnReset_powerCycles]

/-- Settles O8: RESET keeps the buffers by its frame, and power-on leaves none of them a written byte. -/
theorem resetKeepsBuffersPowerOnDrawsThem : Obligations.ResetKeepsBuffersPowerOnDrawsThem :=
  ⟨fun s b => ⟨softReset s, exec_reset b s, (softReset_sameFrame s).sameBytes, softReset_source s, softReset_sink s,
    softReset_out s⟩, readByte_powerOnReset⟩

/-! ## The first state (00_scope.md R6) -/

/-- Every value the free parameters can take is within R6's bounds. -/
theorem configParams_legal : Config.params.Legal := by
  have hslb := Config.slbCapPred.isLt
  have hpix := Config.pixCapPred.isLt
  have hcsb := Config.csbCapOver.isLt
  have hzout := Config.zoutCapPred.isLt
  simp only [Params.Legal, Config.params]
  omega

/-- Settles O52: legal parameters, empty buffers, and CFG, ERR and the run flag all clear. -/
theorem resetMeetsInvariant : Obligations.ResetMeetsInvariant where
  legal := configParams_legal
  slbWf := .nil
  pixWf := .nil
  csbWf := .nil
  slbWithin := nofun
  pixWithin := nofun
  csbWithin := nofun
  configured := nofun
  underived := fun _ => ⟨rfl, rfl, rfl, rfl, rfl⟩
  noError := fun _ => ⟨rfl, rfl⟩
  error := nofun
  failed := nofun
  framed := nofun
  noSession := fun _ => rfl
  runCfg := nofun
  runErr := nofun
  runIdle := nofun
  runSession := nofun
  runTag := nofun

end Sys2Proof.Machine
end

section
/-! PROOFS. Streams that never answer (70_reset_and_hazards.md R313). What a header read, a chunk body and a chunk write
do on a silent stream is said once, as for streams that answer; each command then ends blocked in the state it had
reached, and a hung block steps only by power-on. -/

set_option autoImplicit false

namespace Sys2Proof.Machine

/-! ## The stream accesses (R164, R165, R168) -/

section
variable {s : State} {t : Word} {p : List Byte} {src : Source}

theorem readHeader_of_silent (h : SilentOn s.source 8) : readHeader s = .blocked .source s := by
  rw [readHeader, streamRead_of_silent h, andThen_blocked]

theorem readCrc_of_silent (h : SilentOn s.source 4) : readCrc t p s = .blocked .source s := by
  rw [readCrc, streamRead_of_silent h, andThen_blocked]

theorem readBody_of_silent_payload (hn : s.regs.chunkLen.toNat ≤ s.params.csbCap)
    (h : SilentOn s.source s.regs.chunkLen.toNat) : readBody t s = .blocked .source s := by
  rw [readBody, require_pos (decide_eq_true hn), andThen_ok, streamRead_of_silent h, andThen_blocked]

theorem readBody_of_silent_crc (hn : s.regs.chunkLen.toNat ≤ s.params.csbCap)
    (h : Delivers s.source s.regs.chunkLen.toNat p src) (hp : p.length = s.regs.chunkLen.toNat)
    (h' : SilentOn src 4) : readBody t s = .blocked .source (bodyKept s p src) := by
  rw [readBody_of_delivers hn h, if_pos hp, readCrc_of_silent (by rwa [bodyKept_source])]

theorem chunkSkip_of_silent (h : SilentOn s.source (s.regs.chunkLen.toNat + 4)) :
    chunkSkip s = .blocked .source s := by
  rw [chunkSkip, streamRead_of_silent h, andThen_blocked]

theorem emitChunk_of_silent (h : sinkAnswer s.sink (chunkBytes t p) = none) :
    emitChunk t p s = .blocked .sink (setCrcAcc (chunkCrcAcc t p) s) :=
  streamWrite_of_silent (s := setCrcAcc (chunkCrcAcc t p) s) (chunkBytes_ne_nil t p) h

theorem chunkEmit_of_fits (hn : s.regs.chunkLen.toNat ≤ s.params.csbCap) :
    chunkEmit s = emitChunk s.regs.chunkType (memRead s .csb 0 s.regs.chunkLen.toNat) s := by
  rw [chunkEmit, require_pos (decide_eq_true hn), andThen_ok]

/-! ## A turn of the run (R170, R171) -/

theorem idatTurn_of_body_blocked {u : State} {w : Hang} (h : readBody idatTag s = .blocked w u) :
    idatTurn s = { u with hung := some w } := by
  rw [idatTurn, idatChunk, h]
  rfl

/-- A whole chunk stays counted when the next header does not come. -/
theorem idatTurn_of_silent_header {u : State} (h : readBody idatTag s = .ok p u)
    (hz : (inflateAnswer u p (idatRoom u.regs)).status ≠ .error)
    (hc : (inflateAnswer u p (idatRoom u.regs)).consumed = p.length) (hsilent : SilentOn u.source 8) :
    idatTurn s = { chunkCounted p u with hung := some .source } := by
  have hsource : SilentOn (chunkCounted p u).source 8 := hsilent
  rw [idatTurn_of_consumed h hz hc, idatNext, readHeader_of_silent hsource]
  rfl

end

/-! ## Commands -/

/-- A command that waits for a stream leaves the block hung in the state it had reached. -/
theorem runCommand_of_blocked {op : Byte} {body : State → Result Unit} {s u : State} {w : Hang}
    (herr : s.regs.status.err = false) (h : body s = .blocked w u) :
    runCommand op body s = .next { u with hung := some w } := by
  rw [runCommand_ready herr, h, settle_blocked]

theorem exec_chunkRead_of_blocked {s u : State} {w : Hang} (herr : s.regs.status.err = false)
    (h : readBody s.regs.chunkType s = .blocked w u) : exec .chunkRead s = .next { u with hung := some w } := by
  rw [exec_chunkRead_ready herr, h, andThen_blocked, settle_blocked]

theorem idatEmit_of_ok {s : State} {a : DeflateAnswer} (hcfg : s.regs.status.cfg = true)
    (ha : deflateAnswer s (memRead s .slb 0 s.regs.slbSize.toNat) s.params.zoutCap = a) (hok : a.ok = true) :
    idatEmit s =
      emitChunk idatTag a.output (setChunk (BitVec.ofNat 32 a.output.length) idatTag (deflateCalled s)) := by
  simp only [idatEmit, ha, require_andThen]
  rw [if_pos hcfg, if_pos hok]

/-! ## A hung block and power-on (R300, R313) -/

theorem step_eq_proceed {s : State} (h : s.host.head? ≠ some .powerOn) : step s = proceed s := by
  rw [step, advance]
  split
  · rename_i hs
    exact absurd (by rw [hs, List.head?_cons]) h
  · rfl

theorem step_of_hung {s : State} {w : Hang} (hhung : s.hung = some w) (hhost : s.host.head? ≠ some .powerOn) :
    step s = .fault (hangFault w) := by
  rw [step_eq_proceed hhost, proceed, hhung]

theorem step_of_powerOn {s : State} {rest : List HostEvent} (hs : s.host = .powerOn :: rest) :
    step s = .next (powerOnReset { s with host := rest }) := by
  rw [step, advance, hs]

/-- Settles O60: each command is blocked in the state it had reached, and a hung block steps by power-on alone. -/
theorem silentStreamHangsTheBlock : Obligations.SilentStreamHangsTheBlock := by
  refine ⟨fun s herr h => runCommand_of_blocked herr (readHeader_of_silent h), fun s herr hn => ⟨fun h => ?_,
    fun p src h hp h' => ?_⟩, fun s herr h => runCommand_of_blocked herr (chunkSkip_of_silent h), fun s herr hn => ?_,
    fun s hn => ⟨fun h => ?_, fun p src h hp => ⟨fun h' => ?_, fun q src' h' hq hcrc hsilent => ?_⟩⟩,
    fun s herr hcfg => ?_, fun s hhost => ⟨fun hhung => step_of_hung hhung hhost, fun hhung =>
    step_of_hung hhung hhost⟩, fun s rest hs => ⟨_, step_of_powerOn hs, rfl, rfl, rfl, rfl⟩⟩
  -- CHUNK_READ: the payload, the CRC field.
  · exact exec_chunkRead_of_blocked herr (readBody_of_silent_payload hn h)
  · exact exec_chunkRead_of_blocked herr (readBody_of_silent_crc hn h hp h')
  -- CHUNK_EMIT.
  · intro p t h
    rw [← chunkBytes_of_length (memRead_length s .csb 0 _)] at h
    exact runCommand_of_blocked herr ((chunkEmit_of_fits hn).trans (emitChunk_of_silent h))
  -- A turn of IDAT_RUN: the payload, the CRC field, the next header.
  · exact idatTurn_of_body_blocked (readBody_of_silent_payload hn h)
  · exact idatTurn_of_body_blocked (readBody_of_silent_crc hn h hp h')
  · rw [← idatTag] at hcrc ⊢
    intro body
    have hbody : readBody idatTag s = .ok p body := readBody_of_good_chunk hn h hp h' hq hcrc
    -- All that the rest of the turn needs of the chunk body.
    have hfrOut : s.regs.frOut = body.regs.frOut := rfl
    have hsize : s.regs.slbSize = body.regs.slbSize := rfl
    have hcount : s.regs.idatCount = body.regs.idatCount := rfl
    replace hsilent : SilentOn body.source 8 := hsilent
    rw [hfrOut, hsize, hcount]
    clear_value body
    intro a called hz hc
    exact idatTurn_of_silent_header hbody hz hc hsilent
  -- IDAT_EMIT.
  · intro a z len tag hok h
    exact runCommand_of_blocked herr ((idatEmit_of_ok hcfg rfl hok).trans (emitChunk_of_silent h))

end Sys2Proof.Machine
end
